-- ==== Sys2Proof/Word.lean ====
section
/-! DEFINITION. The word types of the model. Every register value is a vector of bits numbered from 0, bit 0 the least
significant (00_scope.md R13); no rule of the spec adds, subtracts or compares register values. -/

namespace Sys2Proof

/-- The 64 bits of an AArch64 System register cell (10_state.md R22). -/
abbrev Word := BitVec 64

/-- The 32 bits of an instruction (30_encoding.md R75). -/
abbrev InstrWord := BitVec 32

end Sys2Proof
end

