-- ==== Sys2Proof/Machine/Flags.lean ====
section
/-! DEFINITION. Flags. The spec gives the machine no flag and no operation writes one (10_state.md R32, the "Flags
written" line of every rule of 45_access_operations.md); the one thing it says about flags is how the condition field
of an A32 word is treated without them (30_encoding.md R78). -/

namespace Sys2Proof.Machine

/-- The condition field of an A32 word says "always", the only value that needs no flags (R78). -/
def condAlways (cond : BitVec 4) : Bool := cond = 0b1110#4

end Sys2Proof.Machine
end

