-- ==== Sys2Proof/Syntax/Context.lean ====
section
/-! DEFINITION. The context (10_state.md R20), the kinds and widths of an access (00_scope.md R12,
45_access_operations.md R712), and the selectors by which an instruction names a register (30_encoding.md R72 to R74). -/

namespace Sys2Proof

/-- The two Execution states (R2). -/
inductive ExecState where
  | aarch64 | aarch32
deriving DecidableEq, Repr

/-- The four Exception levels (R3). -/
inductive EL where
  | el0 | el1 | el2 | el3
deriving DecidableEq, Repr

/-- The place of a level in the order EL0 < EL1 < EL2 < EL3 (R3). -/
def EL.rank : EL → Nat
  | .el0 => 0
  | .el1 => 1
  | .el2 => 2
  | .el3 => 3

/-- `a` is a higher Exception level than `b` (R3, R502). -/
def EL.higher (a b : EL) : Bool := decide (b.rank < a.rank)

/-- The Security state of the context (R20, R19). -/
inductive SecState where
  | secure | nonSecure
deriving DecidableEq, Repr

/-- The context `ctx` (R20). All 16 combinations are admitted. -/
structure Ctx where
  xs : ExecState
  el : EL
  ss : SecState
deriving DecidableEq, Repr

/-- The kind `k` of an access (R12, R702). -/
inductive AccessKind where
  | read | write
deriving DecidableEq, Repr

/-- The access width `aw` of `RD32` and `WR32` (R712). -/
inductive AccessWidth where
  | w32 | w64
deriving DecidableEq, Repr

/-- The access width in bits. -/
def AccessWidth.bits : AccessWidth → Nat
  | .w32 => 32
  | .w64 => 64

/-- A value of `bits(aw)`: what `WR32` takes and what the read operations return (R706, R708, R709). -/
inductive AccessVal where
  | b32 (v : BitVec 32)
  | b64 (v : BitVec 64)
deriving DecidableEq, Repr

/-- The selector of `MRS` and `MSR`: (op0, op1, CRn, CRm, op2) with op0 2 or 3 (R72). -/
structure Sel64 where
  op0 : BitVec 2
  op1 : BitVec 3
  crn : BitVec 4
  crm : BitVec 4
  op2 : BitVec 3
deriving DecidableEq, Repr

/-- The selector of `MRC` and `MCR`: (coproc, opc1, CRn, CRm, opc2) (R73). -/
structure Sel32 where
  coproc : BitVec 4
  opc1 : BitVec 3
  crn : BitVec 4
  crm : BitVec 4
  opc2 : BitVec 3
deriving DecidableEq, Repr

/-- The selector of `MRRC` and `MCRR`: (coproc, opc1, CRm) (R74). -/
structure Sel32x64 where
  coproc : BitVec 4
  opc1 : BitVec 4
  crm : BitVec 4
deriving DecidableEq, Repr

end Sys2Proof
end

