-- ==== Sys2Proof/Syntax.lean ====
section
/-! DEFINITION. The abstract syntax: one constructor per row of the opcode table (30_encoding.md R72 to R74, R83).
Every field is a register number or a part of the selector, an unsigned number as it stands in the word (R77). The
condition field is not a field of the syntax: only 1110 decodes (R78). -/

namespace Sys2Proof

/-- The six register access instructions. -/
inductive Instr where
  /-- `MRS Xt, <X>` (R713). -/
  | mrs (sel : Sel64) (rt : BitVec 5)
  /-- `MSR <X>, Xt` (R714). -/
  | msr (sel : Sel64) (rt : BitVec 5)
  /-- `MRC` (R715). -/
  | mrc (sel : Sel32) (rt : BitVec 4)
  /-- `MCR` (R716). -/
  | mcr (sel : Sel32) (rt : BitVec 4)
  /-- `MRRC` (R717): rt receives bits [31:0], rt2 bits [63:32]. -/
  | mrrc (sel : Sel32x64) (rt : BitVec 4) (rt2 : BitVec 4)
  /-- `MCRR` (R718): rt supplies bits [31:0], rt2 bits [63:32]. -/
  | mcrr (sel : Sel32x64) (rt : BitVec 4) (rt2 : BitVec 4)
deriving DecidableEq, Repr

/-- The Execution state whose instruction set holds the instruction (R75, R80). -/
def Instr.execState : Instr → ExecState
  | .mrs _ _ => .aarch64
  | .msr _ _ => .aarch64
  | .mrc _ _ => .aarch32
  | .mcr _ _ => .aarch32
  | .mrrc _ _ _ => .aarch32
  | .mcrr _ _ _ => .aarch32

end Sys2Proof
end

