-- ==== Sys2Proof/WellFormed.lean ====
section
/-! DEFINITION. Which terms of the syntax are instructions the model's decoder accepts (30_encoding.md R72, R77, R79). -/

namespace Sys2Proof

/-- op0 is 2 or 3: it is 2 plus the one bit o0 (R72). -/
def Sel64.wellFormed (sel : Sel64) : Bool := sel.op0.getLsbD 1

/-- The checks of R72 (op0) and R77 (number 15, and rt = rt2 on `MRRC`). -/
def Instr.wellFormed : Instr → Bool
  | .mrs sel _ => sel.wellFormed
  | .msr sel _ => sel.wellFormed
  | .mrc _ rt => rt ≠ 15
  | .mcr _ rt => rt ≠ 15
  | .mrrc _ rt rt2 => rt ≠ 15 ∧ rt2 ≠ 15 ∧ rt ≠ rt2
  | .mcrr _ rt rt2 => rt ≠ 15 ∧ rt2 ≠ 15

end Sys2Proof
end

