-- ==== Sys2Proof/Decode.lean ====
section
/-! DEFINITION. The decoder and the encoder of the six instructions (30_encoding.md R72 to R80). The decoder is total
on 32-bit words: it accepts the six patterns under the restrictions of R77 and R78 and rejects every other word by
name (R79). The instruction set is chosen by the Execution state (R75, R80). -/

namespace Sys2Proof

/-- Why a word does not decode. -/
inductive DecodeError where
  /-- The word matches no pattern of the Execution state (R79, R80). -/
  | noPattern
  /-- An A32 word whose condition field is not 1110 (R78). -/
  | condNotAlways
  /-- `MRC` with Rt = 15: a transfer to the flags, which the model does not have (R77, R715). -/
  | transferToFlags
  /-- A register number the format does not permit (R77, R716 to R718). -/
  | notPermitted
deriving DecidableEq, Repr

/-- The selector fields of a SYSREG64 word: op0 = 2 + o0, op1, CRn, CRm, op2 (R72). -/
def sel64Of (w : InstrWord) : Sel64 :=
  { op0 := 1#1 ++ w.extractLsb' 19 1, op1 := w.extractLsb' 16 3, crn := w.extractLsb' 12 4,
    crm := w.extractLsb' 8 4, op2 := w.extractLsb' 5 3 }

/-- The selector fields of a CP32 word (R73). -/
def sel32Of (w : InstrWord) : Sel32 :=
  { coproc := w.extractLsb' 8 4, opc1 := w.extractLsb' 21 3, crn := w.extractLsb' 16 4,
    crm := w.extractLsb' 0 4, opc2 := w.extractLsb' 5 3 }

/-- The selector fields of a CP64 word (R74). -/
def sel32x64Of (w : InstrWord) : Sel32x64 :=
  { coproc := w.extractLsb' 8 4, opc1 := w.extractLsb' 4 4, crm := w.extractLsb' 0 4 }

/-- The decoder of AArch64 state (R80, first sentence). -/
def decodeA64 (w : InstrWord) : Except DecodeError Instr :=
  if w &&& 0xFFF00000#32 = 0xD5300000#32 then .ok (.mrs (sel64Of w) (w.extractLsb' 0 5))
  else if w &&& 0xFFF00000#32 = 0xD5100000#32 then .ok (.msr (sel64Of w) (w.extractLsb' 0 5))
  else .error .noPattern

/-- The decoder of AArch32 state (R80, second sentence, with R77 and R78). -/
def decodeA32 (w : InstrWord) : Except DecodeError Instr :=
  let rt := w.extractLsb' 12 4
  let rt2 := w.extractLsb' 16 4
  if Machine.condAlways (w.extractLsb' 28 4) = false then .error .condNotAlways
  else if w &&& 0x0F100010#32 = 0x0E100010#32 then
    if rt = 15 then .error .transferToFlags else .ok (.mrc (sel32Of w) rt)
  else if w &&& 0x0F100010#32 = 0x0E000010#32 then
    if rt = 15 then .error .notPermitted else .ok (.mcr (sel32Of w) rt)
  else if w &&& 0x0FF00000#32 = 0x0C500000#32 then
    if rt = 15 ∨ rt2 = 15 ∨ rt = rt2 then .error .notPermitted else .ok (.mrrc (sel32x64Of w) rt rt2)
  else if w &&& 0x0FF00000#32 = 0x0C400000#32 then
    if rt = 15 ∨ rt2 = 15 then .error .notPermitted else .ok (.mcrr (sel32x64Of w) rt rt2)
  else .error .noPattern

/-- The decoder: which instruction set it reads is chosen by the Execution state (R75, R80). -/
def decode (xs : ExecState) (w : InstrWord) : Except DecodeError Instr :=
  match xs with
  | .aarch64 => decodeA64 w
  | .aarch32 => decodeA32 w

/-- Format SYSREG64 with its L bit (R72). -/
def encodeSysreg64 (l : BitVec 1) (sel : Sel64) (rt : BitVec 5) : InstrWord :=
  0b1101010100#10 ++ l ++ 1#1 ++ sel.op0.extractLsb' 0 1 ++ sel.op1 ++ sel.crn ++ sel.crm ++ sel.op2 ++ rt

/-- Format CP32 with its L bit, cond = 1110 (R73, R78). -/
def encodeCp32 (l : BitVec 1) (sel : Sel32) (rt : BitVec 4) : InstrWord :=
  0b1110#4 ++ 0b1110#4 ++ sel.opc1 ++ l ++ sel.crn ++ rt ++ sel.coproc ++ sel.opc2 ++ 1#1 ++ sel.crm

/-- Format CP64 with its L bit, cond = 1110 (R74, R78). -/
def encodeCp64 (l : BitVec 1) (sel : Sel32x64) (rt rt2 : BitVec 4) : InstrWord :=
  0b1110#4 ++ 0b1100010#7 ++ l ++ rt2 ++ rt ++ sel.coproc ++ sel.opc1 ++ sel.crm

/-- The word of an instruction (R72 to R74). -/
def encode : Instr → InstrWord
  | .mrs sel rt => encodeSysreg64 1#1 sel rt
  | .msr sel rt => encodeSysreg64 0#1 sel rt
  | .mrc sel rt => encodeCp32 1#1 sel rt
  | .mcr sel rt => encodeCp32 0#1 sel rt
  | .mrrc sel rt rt2 => encodeCp64 1#1 sel rt rt2
  | .mcrr sel rt rt2 => encodeCp64 0#1 sel rt rt2

/-- The Execution state whose decoder accepts the word. At most one does: an A64 pattern has 1101 in bits [31:28], an
accepted A32 word 1110 (R78, R80). -/
def wordExecState (w : InstrWord) : Option ExecState :=
  match decodeA64 w with
  | .ok _ => some .aarch64
  | .error _ =>
    match decodeA32 w with
    | .ok _ => some .aarch32
    | .error _ => none

/-- The word whose bits are w, `nbits` of them given by the opcode table and the rest 0. -/
def tableWord (nbits w : Nat) : InstrWord := BitVec.ofNat 32 (w % 2 ^ nbits)

/-- The instruction the decoder reads from the word, in the Execution state whose decoder accepts it. -/
def decodeTableWord (nbits w : Nat) : Option Instr :=
  match wordExecState (tableWord nbits w) with
  | none => none
  | some xs =>
    match decode xs (tableWord nbits w) with
    | .ok i => some i
    | .error _ => none

end Sys2Proof
end

