-- ==== Sys2Proof/Machine/Bits.lean ====
section
/-! DEFINITION. Bit ranges (00_scope.md R13, 41_map_general_timer.md R303): the bit-field helpers every access uses, and
the values of an access (45_access_operations.md R706, R708, R709). -/

namespace Sys2Proof

/-- The access width a value is of. -/
def AccessVal.width : AccessVal → AccessWidth
  | .b32 _ => .w32
  | .b64 _ => .w64

/-- `zext_64` of a value (R13). -/
def AccessVal.zext : AccessVal → Word
  | .b32 v => v.setWidth 64
  | .b64 v => v

/-- The value's `aw` low bits as `bits(aw)`. -/
def AccessVal.ofWord : AccessWidth → Word → AccessVal
  | .w32, v => .b32 (v.setWidth 32)
  | .w64, v => .b64 v

end Sys2Proof

namespace Sys2Proof.Machine

/-- `mask(hi, lo)`: the bits lo to hi, both ends included, bit 0 the least significant (R13). -/
def mask (hi lo : Nat) : Word := (BitVec.allOnes (hi - lo + 1)).setWidth 64 <<< lo

/-- `v[hi:lo]`, bit lo of v becoming bit 0 of the result (R13), zero-extended to 64 bits. -/
def slice (v : Word) (hi lo : Nat) : Word := (v &&& mask hi lo) >>> lo

/-- The bits of v selected by m, and the bits of u where m is 0. -/
def mix (m v u : Word) : Word := (v &&& m) ||| (u &&& ~~~m)

end Sys2Proof.Machine
end

