-- ==== Sys2Proof/Syntax/Names.lean ====
section
/-! DEFINITION. The four finite name spaces of the spec: AArch64 System register names (10_state.md R21, R36),
AArch32 System register names (R21, R37), general names (40_by_execution_state.md R110 to R201) and general
forms (44_by_exception_level.md R606 to R645). A name is a constructor, never a string that is computed on
(R16, R601); the printed angle brackets of the index placeholder are dropped from the constructor, the digit
that stands for it is the index of a register (Syntax/Registers.lean). -/

namespace Sys2Proof

/-- The 260 AArch64 System register names, in the order of the inventory (R36). A name printed with an
index placeholder is written with the letter n in its place and stands for one register per index (R64, R9). -/
inductive A64Name where
  | ACTLR_EL1 | ACTLR_EL2 | AFSR0_EL1 | AFSR0_EL2 | AFSR0_EL3 | AFSR1_EL1 | AFSR1_EL2 | AFSR1_EL3
  | AMAIR2_EL1 | AMAIR2_EL2 | AMAIR2_EL3 | AMAIR_EL1 | AMAIR_EL2 | AMAIR_EL3 | AMCFGR_EL0
  | AMCGCR_EL0 | AMCNTENCLR0_EL0 | AMCNTENCLR1_EL0 | AMCNTENSET0_EL0 | AMCNTENSET1_EL0 | AMCR_EL0
  | AMEVCNTR0n_EL0 | AMEVCNTR1n_EL0 | AMEVTYPER0n_EL0 | AMEVTYPER1n_EL0 | AMUSERENR_EL0
  | CNTFRQ_EL0 | CNTHCTL_EL2 | CNTHPS_CTL_EL2 | CNTHPS_CVAL_EL2 | CNTHPS_TVAL_EL2 | CNTHP_CTL_EL2
  | CNTHP_CVAL_EL2 | CNTHP_TVAL_EL2 | CNTHVS_CTL_EL2 | CNTHVS_CVAL_EL2 | CNTHVS_TVAL_EL2
  | CNTHV_CTL_EL2 | CNTHV_CVAL_EL2 | CNTHV_TVAL_EL2 | CNTKCTL_EL1 | CNTPCT_EL0 | CNTPS_CTL_EL1
  | CNTPS_CVAL_EL1 | CNTPS_TVAL_EL1 | CNTP_CTL_EL0 | CNTP_CVAL_EL0 | CNTP_TVAL_EL0 | CNTVCT_EL0
  | CNTVOFF_EL2 | CNTV_CTL_EL0 | CNTV_CVAL_EL0 | CNTV_TVAL_EL0 | CONTEXTIDR_EL1 | CONTEXTIDR_EL2
  | CPACR_EL1 | CPTR_EL2 | CPTR_EL3 | CSSELR_EL1 | DACR32_EL2 | DBGAUTHSTATUS_EL1 | DBGBCRn_EL1
  | DBGBVRn_EL1 | DBGCLAIMCLR_EL1 | DBGCLAIMSET_EL1 | DBGDTRRX_EL0 | DBGDTRTX_EL0 | DBGDTR_EL0
  | DBGPRCR_EL1 | DBGVCR32_EL2 | DBGWCRn_EL1 | DBGWVRn_EL1 | DISR_EL1 | DLR_EL0 | DSPSR_EL0
  | ELR_EL1 | ELR_EL2 | ELR_EL3 | ERRIDR_EL1 | ERRSELR_EL1 | ERXADDR_EL1 | ERXCTLR_EL1 | ERXFR_EL1
  | ERXMISC0_EL1 | ERXMISC1_EL1 | ERXMISC2_EL1 | ERXMISC3_EL1 | ERXSTATUS_EL1 | ESR_EL1 | ESR_EL2
  | ESR_EL3 | FAR_EL1 | FAR_EL2 | FAR_EL3 | FPEXC32_EL2 | GCSCR_EL1 | GCSCR_EL2 | GCSCR_EL3
  | GCSPR_EL0 | GCSPR_EL1 | GCSPR_EL2 | GCSPR_EL3 | HACR_EL2 | HCR_EL2 | HPFAR_EL2 | HSTR_EL2
  | ID_AFR0_EL1 | ID_DFR0_EL1 | ID_DFR1_EL1 | ID_ISAR0_EL1 | ID_ISAR1_EL1 | ID_ISAR2_EL1
  | ID_ISAR3_EL1 | ID_ISAR4_EL1 | ID_ISAR5_EL1 | ID_ISAR6_EL1 | ID_MMFR0_EL1 | ID_MMFR1_EL1
  | ID_MMFR2_EL1 | ID_MMFR3_EL1 | ID_MMFR4_EL1 | ID_MMFR5_EL1 | ID_PFR0_EL1 | ID_PFR1_EL1
  | ID_PFR2_EL1 | IFSR32_EL2 | ISR_EL1 | MAIR2_EL1 | MAIR2_EL2 | MAIR2_EL3 | MAIR_EL1 | MAIR_EL2
  | MAIR_EL3 | MDCCINT_EL1 | MDCCSR_EL0 | MDCR_EL2 | MDCR_EL3 | MDRAR_EL1 | MDSCR_EL1 | MPAM0_EL1
  | MPAM1_EL1 | MPAM2_EL2 | MPAM3_EL3 | MPAMBW0_EL1 | MPAMBW1_EL1 | MPAMBW2_EL2 | MPAMBW3_EL3
  | MPAMVPM0_EL2 | MPAMVPM1_EL2 | MPAMVPM2_EL2 | MPAMVPM3_EL2 | MPAMVPM4_EL2 | MPAMVPM5_EL2
  | MPAMVPM6_EL2 | MPAMVPM7_EL2 | MPIDR_EL1 | OSDLR_EL1 | OSDTRRX_EL1 | OSDTRTX_EL1 | OSECCR_EL1
  | OSLAR_EL1 | OSLSR_EL1 | PAR_EL1 | PFAR_EL1 | PFAR_EL2 | PIRE0_EL1 | PIRE0_EL2 | PIR_EL1
  | PIR_EL2 | PIR_EL3 | PMBSR_EL1 | PMBSR_EL2 | PMBSR_EL3 | PMCCFILTR_EL0 | PMCCNTR_EL0
  | PMCEID0_EL0 | PMCEID1_EL0 | PMCNTENCLR_EL0 | PMCNTENSET_EL0 | PMCR_EL0 | PMEVCNTRn_EL0
  | PMEVTYPERn_EL0 | PMINTENCLR_EL1 | PMINTENSET_EL1 | PMMIR_EL1 | PMOVSCLR_EL0 | PMOVSSET_EL0
  | PMSELR_EL0 | PMSWINC_EL0 | PMUSERENR_EL0 | PMXEVCNTR_EL0 | PMXEVTYPER_EL0 | POR_EL0 | POR_EL1
  | POR_EL2 | POR_EL3 | RMR_EL1 | RMR_EL2 | RMR_EL3 | RVBAR_EL1 | RVBAR_EL2 | RVBAR_EL3 | SCR_EL3
  | SCTLR2_EL1 | SCTLR2_EL2 | SCTLR2_EL3 | SCTLR_EL1 | SCTLR_EL2 | SCTLR_EL3 | SCXTNUM_EL0
  | SCXTNUM_EL1 | SCXTNUM_EL2 | SCXTNUM_EL3 | SDER32_EL3 | SMCR_EL1 | SMCR_EL2 | SMCR_EL3
  | SPSR_EL1 | SPSR_EL2 | SPSR_EL3 | SP_EL0 | SP_EL1 | SP_EL2 | SP_EL3 | TCR2_EL1 | TCR2_EL2
  | TCR_EL1 | TCR_EL2 | TCR_EL3 | TFSRE0_EL1 | TFSR_EL1 | TFSR_EL2 | TFSR_EL3 | TPIDRRO_EL0
  | TPIDR_EL0 | TPIDR_EL1 | TPIDR_EL2 | TRBSR_EL1 | TRBSR_EL2 | TRBSR_EL3 | TRFCR_EL1 | TRFCR_EL2
  | TTBR0_EL1 | TTBR0_EL2 | TTBR0_EL3 | TTBR1_EL1 | TTBR1_EL2 | VBAR_EL1 | VBAR_EL2 | VBAR_EL3
  | VDISR_EL2 | VMPIDR_EL2 | VPIDR_EL2 | VSESR_EL2 | VSTTBR_EL2 | VTCR_EL2 | VTTBR_EL2 | ZCR_EL1
  | ZCR_EL2 | ZCR_EL3
deriving DecidableEq, Repr

/-- The 192 AArch32 System register names, in the order of the inventory (R37), qualifiers and footnote
markers stripped (R21). `FAR_EL3` is not among them (R127, 90_conflicts.md C13). -/
inductive A32Name where
  | ACTLR | ACTLR2 | ADFSR | AIFSR | AMAIR0 | AMAIR1 | AMCFGR | AMCGCR | AMCNTENCLR0 | AMCNTENCLR1
  | AMCNTENSET0 | AMCNTENSET1 | AMCR | AMEVCNTR0n | AMEVCNTR1n | AMEVTYPER0n | AMEVTYPER1n
  | AMUSERENR | CNTFRQ | CNTHCTL | CNTHPS_CTL | CNTHPS_CVAL | CNTHPS_TVAL | CNTHP_CTL | CNTHP_CVAL
  | CNTHP_TVAL | CNTHVS_CTL | CNTHVS_CVAL | CNTHVS_TVAL | CNTHV_CTL | CNTHV_CVAL | CNTHV_TVAL
  | CNTKCTL | CNTPCT | CNTP_CTL | CNTP_CVAL | CNTP_TVAL | CNTVCT | CNTVOFF | CNTV_CTL | CNTV_CVAL
  | CNTV_TVAL | CONTEXTIDR | CPACR | CSSELR | DACR | DBGAUTHSTATUS | DBGBCRn | DBGBVRn | DBGBXVRn
  | DBGCLAIMCLR | DBGCLAIMSET | DBGDCCINT | DBGDRAR | DBGDSCRext | DBGDSCRint | DBGDTRRXext
  | DBGDTRRXint | DBGDTRTXext | DBGDTRTXint | DBGOSDLR | DBGOSECCR | DBGOSLAR | DBGOSLSR | DBGPRCR
  | DBGVCR | DBGWCRn | DBGWVRn | DFAR | DFSR | DISR | DLR | DSPSR | DSPSR2 | ERRIDR | ERRSELR
  | ERXADDR | ERXADDR2 | ERXCTLR | ERXCTLR2 | ERXFR | ERXFR2 | ERXMISC0 | ERXMISC1 | ERXMISC2
  | ERXMISC3 | ERXMISC4 | ERXMISC5 | ERXMISC6 | ERXMISC7 | ERXSTATUS | FPEXC | HACR | HACTLR
  | HACTLR2 | HADFSR | HAIFSR | HAMAIR0 | HAMAIR1 | HCPTR | HCR | HCR2 | HDCR | HDFAR | HIFAR
  | HMAIR0 | HMAIR1 | HPFAR | HRMR | HSCTLR | HSR | HSTR | HTCR | HTPIDR | HTTBR | HVBAR | ID_AFR0
  | ID_DFR0 | ID_DFR1 | ID_ISAR0 | ID_ISAR1 | ID_ISAR2 | ID_ISAR3 | ID_ISAR4 | ID_ISAR5 | ID_ISAR6
  | ID_MMFR0 | ID_MMFR1 | ID_MMFR2 | ID_MMFR3 | ID_MMFR4 | ID_MMFR5 | ID_PFR0 | ID_PFR1 | ID_PFR2
  | IFAR | IFSR | ISR | MAIR0 | MAIR1 | MPIDR | MVBAR | NMRR | PAR | PMCCFILTR | PMCCNTR | PMCEID0
  | PMCEID1 | PMCEID2 | PMCEID3 | PMCNTENCLR | PMCNTENSET | PMCR | PMEVCNTRn | PMEVTYPERn
  | PMINTENCLR | PMINTENSET | PMMIR | PMOVSR | PMOVSSET | PMSELR | PMSWINC | PMUSERENR | PMXEVCNTR
  | PMXEVTYPER | PRRR | RMR | SCR | SCTLR | SDCR | SDER | SPSR | SPSR_abt | SPSR_fiq | SPSR_hyp
  | SPSR_irq | SPSR_mon | SPSR_svc | TPIDRPRW | TPIDRURO | TPIDRURW | TTBCR | TTBCR2 | TTBR0
  | TTBR1 | VBAR | VDFSR | VDISR | VMPIDR | VPIDR | VTCR | VTTBR
deriving DecidableEq, Repr

/-- The 91 general names of Tables K14-1 to K14-4 (92 rows; `PMMIR` has two identical ones, R104). -/
inductive GeneralName where
  | CONTEXTIDR | DBGAUTHSTATUS | DBGBCR | DBGBVR | DBGCLAIMCLR | DBGCLAIMSET | DBGDTRRX | DBGDTRTX
  | DBGPRCR | DBGVCR | DBGWCR | DBGWVR | DCCINT | DCCSR | DLR | DSCR | DSPSR | FAR | HCR | HDCR
  | HSCTLR | HTTBR | ISR | MPIDR | OSDLR | OSDTRRX | OSDTRTX | OSECCR | OSLAR | OSLSR | PMMIR | SCR
  | SCTLR | SDCR | SDER | SPSR | TCR | TTBR | VBAR | VTCR | VTTBR | PMCCFILTR | PMCCNTR | PMCEID0
  | PMCEID1 | PMCEID2 | PMCEID3 | PMCNTENCLR | PMCNTENSET | PMCR | PMEVCNTRn | PMEVTYPERn
  | PMINTENCLR | PMINTENSET | PMOVSCLR | PMOVSSET | PMSELR | PMSWINC | PMUSERENR | PMXEVCNTR
  | PMXEVTYPER | AMCFGR | AMCGCR | AMCNTENCLR0 | AMCNTENCLR1 | AMCNTENSET0 | AMCNTENSET1 | AMCR
  | AMEVCNTR0n | AMEVCNTR1n | AMEVTYPER0n | AMEVTYPER1n | AMUSERENR | CNTFRQ | CNTHCTL | CNTHP_CTL
  | CNTHP_CVAL | CNTHP_TVAL | CNTKCTL | CNTP_CTL | CNTP_CVAL | CNTP_TVAL | CNTPCT | CNTPS_CTL
  | CNTPS_CVAL | CNTPS_TVAL | CNTV_CTL | CNTV_CVAL | CNTV_TVAL | CNTVCT | CNTVOFF
deriving DecidableEq, Repr

/-- The 40 general forms of Table K14-8 (R606 to R645). -/
inductive GeneralForm where
  | AFSR0_ELx | AFSR1_ELx | AMAIR2_ELx | AMAIR_ELx | CONTEXTIDR_ELx | CPTR_ELx | ELR_ELx | ESR_ELx
  | FAR_ELx | GCSCR_ELx | GCSPR_ELx | MAIR2_ELx | MAIR_ELx | MPAMn_ELx | MPAMVPMn_ELx | MPAMBWn_ELx
  | PFAR_ELx | PIR_ELx | PIRE0_ELx | PMBSR_ELx | POR_ELx | RMR_ELx | RVBAR_ELx | SCTLR2_ELx
  | SCTLR_ELx | SCXTNUM_ELx | SMCR_ELx | SP_ELx | SPSR_ELx | TCR2_ELx | TCR_ELx | TFSR_ELx
  | TRBSR_ELx | TRFCR_ELx | TTBR_ELx | TTBRn_ELx | TTBR0_ELx | TTBR1_ELx | VBAR_ELx | ZCR_ELx
deriving DecidableEq, Repr

/-- Every AArch64 name, in the order of R36. -/
def A64Name.all : List A64Name := (List.range 260).map A64Name.ofNat

/-- Every AArch32 name, in the order of R37. -/
def A32Name.all : List A32Name := (List.range 192).map A32Name.ofNat

/-- Every general name, in the order of the tables. -/
def GeneralName.all : List GeneralName := (List.range 91).map GeneralName.ofNat

/-- Every general form, in the order of Table K14-8. -/
def GeneralForm.all : List GeneralForm := (List.range 40).map GeneralForm.ofNat

end Sys2Proof
end

