-- ==== Sys2Proof/Syntax/Registers.lean ====
section
/-! DEFINITION. Registers and storage cells: an indexed register is the pair of its base name and its index
(30_encoding.md R64), `RegName` is the disjoint union of the two name spaces (10_state.md R21), and a cell is what
holds bits (R22, R24, R38). Also the entries of a table cell (00_scope.md R14, R16). -/

namespace Sys2Proof

/-- An AArch64 System register: a name and an index, 0 for a name without a placeholder (R64). -/
structure A64Reg where
  name : A64Name
  idx : Nat
deriving DecidableEq, Repr

/-- An AArch32 System register: a name and an index, 0 for a name without a placeholder (R64). -/
structure A32Reg where
  name : A32Name
  idx : Nat
deriving DecidableEq, Repr

/-- `RegName`, the disjoint union of the two name spaces (R21). -/
inductive RegName where
  | a64 (x : A64Reg)
  | a32 (r : A32Reg)
deriving DecidableEq, Repr

/-- A storage cell: `S64[X]` (R22) or `S32[r]` (R24), per index value. -/
inductive Cell where
  | s64 (x : A64Reg)
  | s32 (r : A32Reg)
deriving DecidableEq, Repr

/-- The number of a cell: 512 times its index plus the number of its name (the 260 AArch64 names first, then the 192
AArch32 names). It orders the register file and nothing else. -/
def Cell.key : Cell → Nat
  | .s64 x => x.name.ctorIdx + 512 * x.idx
  | .s32 r => 260 + r.name.ctorIdx + 512 * r.idx

/-- What a cell holds: the stored bits, and the mask of those that have a settled value (R25). -/
structure Entry where
  val : Word
  known : Word
deriving DecidableEq, Repr

/-- What a cell holds before anything is written: no bit has a settled value (R25, R850). -/
def Entry.blank : Entry := { val := 0, known := 0 }

/-- The register file: the cells `S64` and `S32` with their masks `known64` and `known32` (R38), as one list in a
canonical form (`RegFile.wf`, Machine/RegFile.lean). A cell that is not listed is `Entry.blank`. -/
abbrev RegFile := List (Cell × Entry)

/-- A register name as an entry of Tables K14-1 to K14-4. -/
inductive RefName where
  | a64 (n : A64Name)
  | a32 (n : A32Name)
deriving DecidableEq, Repr

/-- The qualifiers printed in Tables K14-1 to K14-4 (R67). -/
inductive Qualifier where
  /-- `(NS)`. -/
  | ns
  /-- `(S)`. -/
  | s
  /-- `(general description)`. -/
  | generalDescription
deriving DecidableEq, Repr

/-- A `RegRef`: a register name with an optional bit range (high, low) and an optional qualifier (R16). -/
structure RegRef where
  name : RefName
  range : Option (Nat × Nat)
  qual : Option Qualifier
deriving DecidableEq, Repr

/-- The entry with a printed bit range (only `DLR_EL0[31:0]`, R124). -/
def RegRef.over (e : RegRef) (hi lo : Nat) : RegRef := { e with range := some (hi, lo) }

/-- The entry with a printed qualifier (R67). -/
def RegRef.qualified (e : RegRef) (q : Qualifier) : RegRef := { e with qual := some q }

end Sys2Proof
end

