-- ==== Sys2Proof/Machine/ByEL.lean ====
section
/-! DEFINITION. Table K14-8 (44_by_exception_level.md R600 to R605, R606 to R645): the AArch64 registers a general form
stands for at each Exception level, in printed order, as corrected (90_conflicts.md C12). -/

namespace Sys2Proof.Machine

/-- `ByEL` (R600): the cell of a general form's row in the column of an Exception level. The empty list is a cell
printed `-` (R602). It is the table, never a substitution in the form's spelling (R601). -/
def byEL : GeneralForm → EL → List A64Name
  | .AFSR0_ELx, .el0 => []  -- R606
  | .AFSR0_ELx, .el1 => [.AFSR0_EL1]
  | .AFSR0_ELx, .el2 => [.AFSR0_EL2]
  | .AFSR0_ELx, .el3 => [.AFSR0_EL3]
  | .AFSR1_ELx, .el0 => []  -- R607
  | .AFSR1_ELx, .el1 => [.AFSR1_EL1]
  | .AFSR1_ELx, .el2 => [.AFSR1_EL2]
  | .AFSR1_ELx, .el3 => [.AFSR1_EL3]
  | .AMAIR2_ELx, .el0 => []  -- R608
  | .AMAIR2_ELx, .el1 => [.AMAIR2_EL1]
  | .AMAIR2_ELx, .el2 => [.AMAIR2_EL2]
  | .AMAIR2_ELx, .el3 => [.AMAIR2_EL3]
  | .AMAIR_ELx, .el0 => []  -- R609
  | .AMAIR_ELx, .el1 => [.AMAIR_EL1]
  | .AMAIR_ELx, .el2 => [.AMAIR_EL2]
  | .AMAIR_ELx, .el3 => [.AMAIR_EL3]
  | .CONTEXTIDR_ELx, .el0 => []  -- R610
  | .CONTEXTIDR_ELx, .el1 => [.CONTEXTIDR_EL1]
  | .CONTEXTIDR_ELx, .el2 => [.CONTEXTIDR_EL2]
  | .CONTEXTIDR_ELx, .el3 => []
  | .CPTR_ELx, .el0 => []  -- R611
  | .CPTR_ELx, .el1 => []
  | .CPTR_ELx, .el2 => [.CPTR_EL2]
  | .CPTR_ELx, .el3 => [.CPTR_EL3]
  | .ELR_ELx, .el0 => []  -- R612
  | .ELR_ELx, .el1 => [.ELR_EL1]
  | .ELR_ELx, .el2 => [.ELR_EL2]
  | .ELR_ELx, .el3 => [.ELR_EL3]
  | .ESR_ELx, .el0 => []  -- R613
  | .ESR_ELx, .el1 => [.ESR_EL1]
  | .ESR_ELx, .el2 => [.ESR_EL2]
  | .ESR_ELx, .el3 => [.ESR_EL3]
  | .FAR_ELx, .el0 => []  -- R614
  | .FAR_ELx, .el1 => [.FAR_EL1]
  | .FAR_ELx, .el2 => [.FAR_EL2]
  | .FAR_ELx, .el3 => [.FAR_EL3]
  | .GCSCR_ELx, .el0 => []  -- R615
  | .GCSCR_ELx, .el1 => [.GCSCR_EL1]
  | .GCSCR_ELx, .el2 => [.GCSCR_EL2]
  | .GCSCR_ELx, .el3 => [.GCSCR_EL3]
  | .GCSPR_ELx, .el0 => [.GCSPR_EL0]  -- R616
  | .GCSPR_ELx, .el1 => [.GCSPR_EL1]
  | .GCSPR_ELx, .el2 => [.GCSPR_EL2]
  | .GCSPR_ELx, .el3 => [.GCSPR_EL3]
  | .MAIR2_ELx, .el0 => []  -- R617
  | .MAIR2_ELx, .el1 => [.MAIR2_EL1]
  | .MAIR2_ELx, .el2 => [.MAIR2_EL2]
  | .MAIR2_ELx, .el3 => [.MAIR2_EL3]
  | .MAIR_ELx, .el0 => []  -- R618
  | .MAIR_ELx, .el1 => [.MAIR_EL1]
  | .MAIR_ELx, .el2 => [.MAIR_EL2]
  | .MAIR_ELx, .el3 => [.MAIR_EL3]
  | .MPAMn_ELx, .el0 => []  -- R619
  | .MPAMn_ELx, .el1 => [.MPAM0_EL1, .MPAM1_EL1]
  | .MPAMn_ELx, .el2 => [.MPAM2_EL2]
  | .MPAMn_ELx, .el3 => [.MPAM3_EL3]
  | .MPAMVPMn_ELx, .el0 => []  -- R620
  | .MPAMVPMn_ELx, .el1 => []
  | .MPAMVPMn_ELx, .el2 => [.MPAMVPM0_EL2, .MPAMVPM1_EL2, .MPAMVPM2_EL2, .MPAMVPM3_EL2, .MPAMVPM4_EL2, .MPAMVPM5_EL2, .MPAMVPM6_EL2, .MPAMVPM7_EL2]
  | .MPAMVPMn_ELx, .el3 => []
  | .MPAMBWn_ELx, .el0 => []  -- R621
  | .MPAMBWn_ELx, .el1 => [.MPAMBW0_EL1, .MPAMBW1_EL1]
  | .MPAMBWn_ELx, .el2 => [.MPAMBW2_EL2]
  | .MPAMBWn_ELx, .el3 => [.MPAMBW3_EL3]
  | .PFAR_ELx, .el0 => []  -- R622
  | .PFAR_ELx, .el1 => [.PFAR_EL1]
  | .PFAR_ELx, .el2 => [.PFAR_EL2]
  | .PFAR_ELx, .el3 => []
  | .PIR_ELx, .el0 => []  -- R623
  | .PIR_ELx, .el1 => [.PIR_EL1]
  | .PIR_ELx, .el2 => [.PIR_EL2]
  | .PIR_ELx, .el3 => [.PIR_EL3]
  | .PIRE0_ELx, .el0 => []  -- R624
  | .PIRE0_ELx, .el1 => [.PIRE0_EL1]
  | .PIRE0_ELx, .el2 => [.PIRE0_EL2]
  | .PIRE0_ELx, .el3 => []
  | .PMBSR_ELx, .el0 => []  -- R625
  | .PMBSR_ELx, .el1 => [.PMBSR_EL1]
  | .PMBSR_ELx, .el2 => [.PMBSR_EL2]
  | .PMBSR_ELx, .el3 => [.PMBSR_EL3]
  | .POR_ELx, .el0 => [.POR_EL0]  -- R626
  | .POR_ELx, .el1 => [.POR_EL1]
  | .POR_ELx, .el2 => [.POR_EL2]
  | .POR_ELx, .el3 => [.POR_EL3]
  | .RMR_ELx, .el0 => []  -- R627
  | .RMR_ELx, .el1 => [.RMR_EL1]
  | .RMR_ELx, .el2 => [.RMR_EL2]
  | .RMR_ELx, .el3 => [.RMR_EL3]
  | .RVBAR_ELx, .el0 => []  -- R628
  | .RVBAR_ELx, .el1 => [.RVBAR_EL1]
  | .RVBAR_ELx, .el2 => [.RVBAR_EL2]
  | .RVBAR_ELx, .el3 => [.RVBAR_EL3]
  | .SCTLR2_ELx, .el0 => []  -- R629
  | .SCTLR2_ELx, .el1 => [.SCTLR2_EL1]
  | .SCTLR2_ELx, .el2 => [.SCTLR2_EL2]
  | .SCTLR2_ELx, .el3 => [.SCTLR2_EL3]
  | .SCTLR_ELx, .el0 => []  -- R630
  | .SCTLR_ELx, .el1 => [.SCTLR_EL1]
  | .SCTLR_ELx, .el2 => [.SCTLR_EL2]
  | .SCTLR_ELx, .el3 => [.SCTLR_EL3]
  | .SCXTNUM_ELx, .el0 => [.SCXTNUM_EL0]  -- R631
  | .SCXTNUM_ELx, .el1 => [.SCXTNUM_EL1]
  | .SCXTNUM_ELx, .el2 => [.SCXTNUM_EL2]
  | .SCXTNUM_ELx, .el3 => [.SCXTNUM_EL3]
  | .SMCR_ELx, .el0 => []  -- R632
  | .SMCR_ELx, .el1 => [.SMCR_EL1]
  | .SMCR_ELx, .el2 => [.SMCR_EL2]
  | .SMCR_ELx, .el3 => [.SMCR_EL3]
  | .SP_ELx, .el0 => [.SP_EL0]  -- R633
  | .SP_ELx, .el1 => [.SP_EL1]
  | .SP_ELx, .el2 => [.SP_EL2]
  | .SP_ELx, .el3 => [.SP_EL3]
  | .SPSR_ELx, .el0 => []  -- R634
  | .SPSR_ELx, .el1 => [.SPSR_EL1]
  | .SPSR_ELx, .el2 => [.SPSR_EL2]
  | .SPSR_ELx, .el3 => [.SPSR_EL3]
  | .TCR2_ELx, .el0 => []  -- R635
  | .TCR2_ELx, .el1 => [.TCR2_EL1]
  | .TCR2_ELx, .el2 => [.TCR2_EL2]
  | .TCR2_ELx, .el3 => []
  | .TCR_ELx, .el0 => []  -- R636
  | .TCR_ELx, .el1 => [.TCR_EL1]
  | .TCR_ELx, .el2 => [.TCR_EL2]
  | .TCR_ELx, .el3 => [.TCR_EL3]
  | .TFSR_ELx, .el0 => [.TFSRE0_EL1]  -- R637
  | .TFSR_ELx, .el1 => [.TFSR_EL1]
  | .TFSR_ELx, .el2 => [.TFSR_EL2]
  | .TFSR_ELx, .el3 => [.TFSR_EL3]
  | .TRBSR_ELx, .el0 => []  -- R638
  | .TRBSR_ELx, .el1 => [.TRBSR_EL1]
  | .TRBSR_ELx, .el2 => [.TRBSR_EL2]
  | .TRBSR_ELx, .el3 => [.TRBSR_EL3]
  | .TRFCR_ELx, .el0 => []  -- R639
  | .TRFCR_ELx, .el1 => [.TRFCR_EL1]
  | .TRFCR_ELx, .el2 => [.TRFCR_EL2]
  | .TRFCR_ELx, .el3 => []
  | .TTBR_ELx, .el0 => []  -- R640
  | .TTBR_ELx, .el1 => [.TTBR0_EL1, .TTBR1_EL1]
  | .TTBR_ELx, .el2 => [.TTBR0_EL2, .TTBR1_EL2, .VTTBR_EL2, .VSTTBR_EL2]
  | .TTBR_ELx, .el3 => [.TTBR0_EL3]
  | .TTBRn_ELx, .el0 => []  -- R641
  | .TTBRn_ELx, .el1 => [.TTBR0_EL1, .TTBR1_EL1]
  | .TTBRn_ELx, .el2 => [.TTBR0_EL2, .TTBR1_EL2]
  | .TTBRn_ELx, .el3 => [.TTBR0_EL3]
  | .TTBR0_ELx, .el0 => []  -- R642
  | .TTBR0_ELx, .el1 => [.TTBR0_EL1]
  | .TTBR0_ELx, .el2 => [.TTBR0_EL2]
  | .TTBR0_ELx, .el3 => [.TTBR0_EL3]
  | .TTBR1_ELx, .el0 => []  -- R643
  | .TTBR1_ELx, .el1 => [.TTBR1_EL1]
  | .TTBR1_ELx, .el2 => [.TTBR1_EL2]
  | .TTBR1_ELx, .el3 => []
  | .VBAR_ELx, .el0 => []  -- R644
  | .VBAR_ELx, .el1 => [.VBAR_EL1]
  | .VBAR_ELx, .el2 => [.VBAR_EL2]
  | .VBAR_ELx, .el3 => [.VBAR_EL3]
  | .ZCR_ELx, .el0 => []  -- R645
  | .ZCR_ELx, .el1 => [.ZCR_EL1]
  | .ZCR_ELx, .el2 => [.ZCR_EL2]
  | .ZCR_ELx, .el3 => [.ZCR_EL3]

end Sys2Proof.Machine
end

