-- ==== Sys2Proof/Machine/ByState.lean ====
section
/-! DEFINITION. Tables K14-1 to K14-4 (40_by_execution_state.md R100 to R106, R110 to R201): the registers a general
name stands for in each Execution state, in printed order. -/

namespace Sys2Proof.Machine

/-- An AArch64 name as an entry of a table cell. -/
def r64 (n : A64Name) : RegRef := { name := .a64 n, range := none, qual := none }

/-- An AArch32 name as an entry of a table cell. -/
def r32 (n : A32Name) : RegRef := { name := .a32 n, range := none, qual := none }

/-- `ByState` (R100): the cell of a general name's row in the column of an Execution state. The empty list is a cell
printed `-` (R101). -/
def byState : GeneralName → ExecState → List RegRef
  | .CONTEXTIDR, .aarch64 => [r64 .CONTEXTIDR_EL1]  -- R110
  | .CONTEXTIDR, .aarch32 => [r32 .CONTEXTIDR]
  | .DBGAUTHSTATUS, .aarch64 => [r64 .DBGAUTHSTATUS_EL1]  -- R111
  | .DBGAUTHSTATUS, .aarch32 => [r32 .DBGAUTHSTATUS]
  | .DBGBCR, .aarch64 => [r64 .DBGBCRn_EL1]  -- R112
  | .DBGBCR, .aarch32 => [r32 .DBGBCRn]
  | .DBGBVR, .aarch64 => [r64 .DBGBVRn_EL1]  -- R113
  | .DBGBVR, .aarch32 => [r32 .DBGBVRn, r32 .DBGBXVRn]
  | .DBGCLAIMCLR, .aarch64 => [r64 .DBGCLAIMCLR_EL1]  -- R114
  | .DBGCLAIMCLR, .aarch32 => [r32 .DBGCLAIMCLR]
  | .DBGCLAIMSET, .aarch64 => [r64 .DBGCLAIMSET_EL1]  -- R115
  | .DBGCLAIMSET, .aarch32 => [r32 .DBGCLAIMSET]
  | .DBGDTRRX, .aarch64 => [r64 .DBGDTRRX_EL0]  -- R116
  | .DBGDTRRX, .aarch32 => [r32 .DBGDTRRXint]
  | .DBGDTRTX, .aarch64 => [r64 .DBGDTRTX_EL0]  -- R117
  | .DBGDTRTX, .aarch32 => [r32 .DBGDTRTXint]
  | .DBGPRCR, .aarch64 => [r64 .DBGPRCR_EL1]  -- R118
  | .DBGPRCR, .aarch32 => [r32 .DBGPRCR]
  | .DBGVCR, .aarch64 => [r64 .DBGVCR32_EL2]  -- R119
  | .DBGVCR, .aarch32 => [r32 .DBGVCR]
  | .DBGWCR, .aarch64 => [r64 .DBGWCRn_EL1]  -- R120
  | .DBGWCR, .aarch32 => [r32 .DBGWCRn]
  | .DBGWVR, .aarch64 => [r64 .DBGWVRn_EL1]  -- R121
  | .DBGWVR, .aarch32 => [r32 .DBGWVRn]
  | .DCCINT, .aarch64 => [r64 .MDCCINT_EL1]  -- R122
  | .DCCINT, .aarch32 => [r32 .DBGDCCINT]
  | .DCCSR, .aarch64 => [r64 .MDCCSR_EL0]  -- R123
  | .DCCSR, .aarch32 => [r32 .DBGDSCRint]
  | .DLR, .aarch64 => [r64 .DLR_EL0 |>.over 31 0]  -- R124
  | .DLR, .aarch32 => [r32 .DLR]
  | .DSCR, .aarch64 => [r64 .MDSCR_EL1]  -- R125
  | .DSCR, .aarch32 => [r32 .DBGDSCRext]
  | .DSPSR, .aarch64 => [r64 .DSPSR_EL0]  -- R126
  | .DSPSR, .aarch32 => [r32 .DSPSR, r32 .DSPSR2]
  | .FAR, .aarch64 => [r64 .FAR_EL1, r64 .FAR_EL2, r64 .FAR_EL3, r64 .HPFAR_EL2]  -- R127
  | .FAR, .aarch32 => [r32 .DFAR, r32 .IFAR, r32 .HDFAR, r32 .HIFAR, r64 .FAR_EL3, r32 .HPFAR]
  | .HCR, .aarch64 => [r64 .HCR_EL2]  -- R128
  | .HCR, .aarch32 => [r32 .HCR, r32 .HCR2]
  | .HDCR, .aarch64 => [r64 .MDCR_EL2]  -- R129
  | .HDCR, .aarch32 => [r32 .HDCR]
  | .HSCTLR, .aarch64 => [r64 .SCTLR_EL2]  -- R130
  | .HSCTLR, .aarch32 => [r32 .HSCTLR]
  | .HTTBR, .aarch64 => [r64 .TTBR0_EL2]  -- R131
  | .HTTBR, .aarch32 => [r32 .HTTBR]
  | .ISR, .aarch64 => [r64 .ISR_EL1]  -- R132
  | .ISR, .aarch32 => [r32 .ISR]
  | .MPIDR, .aarch64 => [r64 .MPIDR_EL1]  -- R133
  | .MPIDR, .aarch32 => [r32 .MPIDR]
  | .OSDLR, .aarch64 => [r64 .OSDLR_EL1]  -- R134
  | .OSDLR, .aarch32 => [r32 .DBGOSDLR]
  | .OSDTRRX, .aarch64 => [r64 .OSDTRRX_EL1]  -- R135
  | .OSDTRRX, .aarch32 => [r32 .DBGDTRRXext]
  | .OSDTRTX, .aarch64 => [r64 .OSDTRTX_EL1]  -- R136
  | .OSDTRTX, .aarch32 => [r32 .DBGDTRTXext]
  | .OSECCR, .aarch64 => [r64 .OSECCR_EL1]  -- R137
  | .OSECCR, .aarch32 => [r32 .DBGOSECCR]
  | .OSLAR, .aarch64 => [r64 .OSLAR_EL1]  -- R138
  | .OSLAR, .aarch32 => [r32 .DBGOSLAR]
  | .OSLSR, .aarch64 => [r64 .OSLSR_EL1]  -- R139
  | .OSLSR, .aarch32 => [r32 .DBGOSLSR]
  | .PMMIR, .aarch64 => [r64 .PMMIR_EL1]  -- R140, R164
  | .PMMIR, .aarch32 => [r32 .PMMIR]
  | .SCR, .aarch64 => [r64 .SCR_EL3]  -- R141
  | .SCR, .aarch32 => [r32 .SCR]
  | .SCTLR, .aarch64 => [r64 .SCTLR_EL1, r64 .SCTLR_EL2, r64 .SCTLR_EL3]  -- R142
  | .SCTLR, .aarch32 => [r32 .SCTLR |>.qualified .ns, r32 .HSCTLR, r32 .SCTLR |>.qualified .s]
  | .SDCR, .aarch64 => [r64 .MDCR_EL3]  -- R143
  | .SDCR, .aarch32 => [r32 .SDCR]
  | .SDER, .aarch64 => [r64 .SDER32_EL3]  -- R144
  | .SDER, .aarch32 => [r32 .SDER]
  | .SPSR, .aarch64 => [r64 .SPSR_EL1, r64 .SPSR_EL2, r64 .SPSR_EL3]  -- R145
  | .SPSR, .aarch32 => [r32 .SPSR |>.qualified .generalDescription, r32 .SPSR_abt, r32 .SPSR_fiq, r32 .SPSR_hyp, r32 .SPSR_irq, r32 .SPSR_mon, r32 .SPSR_svc]
  | .TCR, .aarch64 => [r64 .TCR_EL1, r64 .TCR_EL2, r64 .TCR_EL3, r64 .VTCR_EL2]  -- R146
  | .TCR, .aarch32 => [r32 .TTBCR |>.qualified .ns, r32 .HTCR, r32 .TTBCR |>.qualified .s, r32 .VTCR]
  | .TTBR, .aarch64 => [r64 .TTBR0_EL1, r64 .TTBR0_EL2, r64 .TTBR0_EL3, r64 .TTBR1_EL1, r64 .VTTBR_EL2]  -- R147
  | .TTBR, .aarch32 => [r32 .TTBR0, r32 .TTBR1, r32 .HTTBR, r32 .VTTBR]
  | .VBAR, .aarch64 => [r64 .VBAR_EL1, r64 .VBAR_EL2, r64 .VBAR_EL3]  -- R148
  | .VBAR, .aarch32 => [r32 .VBAR, r32 .HVBAR, r32 .MVBAR]
  | .VTCR, .aarch64 => [r64 .VTCR_EL2]  -- R149
  | .VTCR, .aarch32 => [r32 .VTCR]
  | .VTTBR, .aarch64 => [r64 .VTTBR_EL2]  -- R150
  | .VTTBR, .aarch32 => [r32 .VTTBR]
  | .PMCCFILTR, .aarch64 => [r64 .PMCCFILTR_EL0]  -- R151
  | .PMCCFILTR, .aarch32 => [r32 .PMCCFILTR]
  | .PMCCNTR, .aarch64 => [r64 .PMCCNTR_EL0]  -- R152
  | .PMCCNTR, .aarch32 => [r32 .PMCCNTR]
  | .PMCEID0, .aarch64 => [r64 .PMCEID0_EL0]  -- R153
  | .PMCEID0, .aarch32 => [r32 .PMCEID0]
  | .PMCEID1, .aarch64 => [r64 .PMCEID1_EL0]  -- R154
  | .PMCEID1, .aarch32 => [r32 .PMCEID1]
  | .PMCEID2, .aarch64 => [r64 .PMCEID0_EL0]  -- R155
  | .PMCEID2, .aarch32 => [r32 .PMCEID2]
  | .PMCEID3, .aarch64 => [r64 .PMCEID1_EL0]  -- R156
  | .PMCEID3, .aarch32 => [r32 .PMCEID3]
  | .PMCNTENCLR, .aarch64 => [r64 .PMCNTENCLR_EL0]  -- R157
  | .PMCNTENCLR, .aarch32 => [r32 .PMCNTENCLR]
  | .PMCNTENSET, .aarch64 => [r64 .PMCNTENSET_EL0]  -- R158
  | .PMCNTENSET, .aarch32 => [r32 .PMCNTENSET]
  | .PMCR, .aarch64 => [r64 .PMCR_EL0]  -- R159
  | .PMCR, .aarch32 => [r32 .PMCR]
  | .PMEVCNTRn, .aarch64 => [r64 .PMEVCNTRn_EL0]  -- R160
  | .PMEVCNTRn, .aarch32 => [r32 .PMEVCNTRn]
  | .PMEVTYPERn, .aarch64 => [r64 .PMEVTYPERn_EL0]  -- R161
  | .PMEVTYPERn, .aarch32 => [r32 .PMEVTYPERn]
  | .PMINTENCLR, .aarch64 => [r64 .PMINTENCLR_EL1]  -- R162
  | .PMINTENCLR, .aarch32 => [r32 .PMINTENCLR]
  | .PMINTENSET, .aarch64 => [r64 .PMINTENSET_EL1]  -- R163
  | .PMINTENSET, .aarch32 => [r32 .PMINTENSET]
  | .PMOVSCLR, .aarch64 => [r64 .PMOVSCLR_EL0]  -- R165
  | .PMOVSCLR, .aarch32 => [r32 .PMOVSR]
  | .PMOVSSET, .aarch64 => [r64 .PMOVSSET_EL0]  -- R166
  | .PMOVSSET, .aarch32 => [r32 .PMOVSSET]
  | .PMSELR, .aarch64 => [r64 .PMSELR_EL0]  -- R167
  | .PMSELR, .aarch32 => [r32 .PMSELR]
  | .PMSWINC, .aarch64 => [r64 .PMSWINC_EL0]  -- R168
  | .PMSWINC, .aarch32 => [r32 .PMSWINC]
  | .PMUSERENR, .aarch64 => [r64 .PMUSERENR_EL0]  -- R169
  | .PMUSERENR, .aarch32 => [r32 .PMUSERENR]
  | .PMXEVCNTR, .aarch64 => [r64 .PMXEVCNTR_EL0]  -- R170
  | .PMXEVCNTR, .aarch32 => [r32 .PMXEVCNTR]
  | .PMXEVTYPER, .aarch64 => [r64 .PMXEVTYPER_EL0]  -- R171
  | .PMXEVTYPER, .aarch32 => [r32 .PMXEVTYPER]
  | .AMCFGR, .aarch64 => [r64 .AMCFGR_EL0]  -- R172
  | .AMCFGR, .aarch32 => [r32 .AMCFGR]
  | .AMCGCR, .aarch64 => [r64 .AMCGCR_EL0]  -- R173
  | .AMCGCR, .aarch32 => [r32 .AMCGCR]
  | .AMCNTENCLR0, .aarch64 => [r64 .AMCNTENCLR0_EL0]  -- R174
  | .AMCNTENCLR0, .aarch32 => [r32 .AMCNTENCLR0]
  | .AMCNTENCLR1, .aarch64 => [r64 .AMCNTENCLR1_EL0]  -- R175
  | .AMCNTENCLR1, .aarch32 => [r32 .AMCNTENCLR1]
  | .AMCNTENSET0, .aarch64 => [r64 .AMCNTENSET0_EL0]  -- R176
  | .AMCNTENSET0, .aarch32 => [r32 .AMCNTENSET0]
  | .AMCNTENSET1, .aarch64 => [r64 .AMCNTENSET1_EL0]  -- R177
  | .AMCNTENSET1, .aarch32 => [r32 .AMCNTENSET1]
  | .AMCR, .aarch64 => [r64 .AMCR_EL0]  -- R178
  | .AMCR, .aarch32 => [r32 .AMCR]
  | .AMEVCNTR0n, .aarch64 => [r64 .AMEVCNTR0n_EL0]  -- R179
  | .AMEVCNTR0n, .aarch32 => [r32 .AMEVCNTR0n]
  | .AMEVCNTR1n, .aarch64 => [r64 .AMEVCNTR1n_EL0]  -- R180
  | .AMEVCNTR1n, .aarch32 => [r32 .AMEVCNTR1n]
  | .AMEVTYPER0n, .aarch64 => [r64 .AMEVTYPER0n_EL0]  -- R181
  | .AMEVTYPER0n, .aarch32 => [r32 .AMEVTYPER0n]
  | .AMEVTYPER1n, .aarch64 => [r64 .AMEVTYPER1n_EL0]  -- R182
  | .AMEVTYPER1n, .aarch32 => [r32 .AMEVTYPER1n]
  | .AMUSERENR, .aarch64 => [r64 .AMUSERENR_EL0]  -- R183
  | .AMUSERENR, .aarch32 => [r32 .AMUSERENR]
  | .CNTFRQ, .aarch64 => [r64 .CNTFRQ_EL0]  -- R184
  | .CNTFRQ, .aarch32 => [r32 .CNTFRQ]
  | .CNTHCTL, .aarch64 => [r64 .CNTHCTL_EL2]  -- R185
  | .CNTHCTL, .aarch32 => [r32 .CNTHCTL]
  | .CNTHP_CTL, .aarch64 => [r64 .CNTHP_CTL_EL2]  -- R186
  | .CNTHP_CTL, .aarch32 => [r32 .CNTHP_CTL]
  | .CNTHP_CVAL, .aarch64 => [r64 .CNTHP_CVAL_EL2]  -- R187
  | .CNTHP_CVAL, .aarch32 => [r32 .CNTHP_CVAL]
  | .CNTHP_TVAL, .aarch64 => [r64 .CNTHP_TVAL_EL2]  -- R188
  | .CNTHP_TVAL, .aarch32 => [r32 .CNTHP_TVAL]
  | .CNTKCTL, .aarch64 => [r64 .CNTKCTL_EL1]  -- R189
  | .CNTKCTL, .aarch32 => [r32 .CNTKCTL]
  | .CNTP_CTL, .aarch64 => [r64 .CNTP_CTL_EL0]  -- R190
  | .CNTP_CTL, .aarch32 => [r32 .CNTP_CTL]
  | .CNTP_CVAL, .aarch64 => [r64 .CNTP_CVAL_EL0]  -- R191
  | .CNTP_CVAL, .aarch32 => [r32 .CNTP_CVAL]
  | .CNTP_TVAL, .aarch64 => [r64 .CNTP_TVAL_EL0]  -- R192
  | .CNTP_TVAL, .aarch32 => [r32 .CNTP_TVAL]
  | .CNTPCT, .aarch64 => [r64 .CNTPCT_EL0]  -- R193
  | .CNTPCT, .aarch32 => [r32 .CNTPCT]
  | .CNTPS_CTL, .aarch64 => [r64 .CNTPS_CTL_EL1]  -- R194
  | .CNTPS_CTL, .aarch32 => []
  | .CNTPS_CVAL, .aarch64 => [r64 .CNTPS_CVAL_EL1]  -- R195
  | .CNTPS_CVAL, .aarch32 => []
  | .CNTPS_TVAL, .aarch64 => [r64 .CNTPS_TVAL_EL1]  -- R196
  | .CNTPS_TVAL, .aarch32 => []
  | .CNTV_CTL, .aarch64 => [r64 .CNTV_CTL_EL0]  -- R197
  | .CNTV_CTL, .aarch32 => [r32 .CNTV_CTL]
  | .CNTV_CVAL, .aarch64 => [r64 .CNTV_CVAL_EL0]  -- R198
  | .CNTV_CVAL, .aarch32 => [r32 .CNTV_CVAL]
  | .CNTV_TVAL, .aarch64 => [r64 .CNTV_TVAL_EL0]  -- R199
  | .CNTV_TVAL, .aarch32 => [r32 .CNTV_TVAL]
  | .CNTVCT, .aarch64 => [r64 .CNTVCT_EL0]  -- R200
  | .CNTVCT, .aarch32 => [r32 .CNTVCT]
  | .CNTVOFF, .aarch64 => [r64 .CNTVOFF_EL2]  -- R201
  | .CNTVOFF, .aarch32 => [r32 .CNTVOFF]

end Sys2Proof.Machine
end

