-- ==== Sys2Proof/Config.lean ====
section
/-! DEFINITION. The open parameters of the spec as plain data (00_scope.md R6 to R12, 92_eei_decisions.md "Parameters,
collected"), and the free values: constants with no body.

The spec takes the parameters as arguments of the model; here they are one record of plain data that a state carries
and no step changes, so a statement for every state is a statement for every value of every parameter. A parameter
that is a function on a finite set of names and contexts is held as the finite list of its values that differ from a
common one (log entry 1). -/

namespace Sys2Proof

/-- Which row of `RMR` applies: the one printed `(at EL1)` or the one printed `(at EL3)` (R12, R23). -/
inductive RmrChoice where
  | el1 | el3
deriving DecidableEq, Repr

/-- The parameters of an implementation and of a caller. -/
structure Config where
  /-- `EL1CanUseAArch32` (R6). -/
  el1CanUseAArch32 : Bool
  /-- `AnyELCanUseAArch32` (R7). -/
  anyELCanUseAArch32 : Bool
  /-- `HaveACTLR2` (R8). -/
  haveACTLR2 : Bool
  /-- `HaveHACTLR2` (R8). -/
  haveHACTLR2 : Bool
  /-- `HaveTTBCR2` (R8). -/
  haveTTBCR2 : Bool
  /-- `NumBRP` (R9). -/
  numBRP : Nat
  /-- `NumWRP` (R9). -/
  numWRP : Nat
  /-- `W32` on the names whose width the source leaves open: those of width other than 32 (R10). -/
  w32Other : List (A32Name × Nat)
  /-- `FootnoteA`: the names and contexts at which it is false (R11). -/
  footnoteAOff : List (A32Name × Ctx)
  /-- `Accessible`: the contexts, registers and kinds of access at which it is false (R12). -/
  denied : List (Ctx × RegName × AccessKind)
  /-- `Behaviour`: the cells whose behaviour is not `PLAIN`, each with a number that stands for what it is (R703). -/
  openBehaviour : List (Cell × Nat)
  /-- `RMRSel`: the contexts at which it is not `None` (R12, R23). -/
  rmrSel : List (Ctx × RmrChoice)
  /-- `MayShare`: the pairs a cautious reader adds to the least relation, in one order each (R12, R26, R28). -/
  mayShareMore : List (Cell × Cell)
  /-- `SysRegSel64` (R76). -/
  sysRegSel64 : List (A64Reg × Sel64)
  /-- `SysRegSel32` (R76). -/
  sysRegSel32 : List (A32Reg × Sel32)
  /-- `SysRegSel32x64` (R76). -/
  sysRegSel32x64 : List (A32Reg × Sel32x64)
deriving DecidableEq, Repr

/-- `draw(64)`: the n-th fresh value about which nothing is known (R15, R25, 93_implementation_defined.md U2; log entry 5). -/
opaque Config.freshDraw : Nat → Word

/-- `rd` of a behaviour that is not `PLAIN` (R703): from the behaviour's number, the cell, the state before and the mask
it gives the value read and the changes of the register file (log entry 6). -/
opaque Config.openRd : Nat → Cell → Ctx → RegFile → Nat → Word → Word × List (Cell × Entry)

/-- `wr` of a behaviour that is not `PLAIN` (R703): from the behaviour's number, the cell, the state before, the mask and
the value it gives the changes of the register file. -/
opaque Config.openWr : Nat → Cell → Ctx → RegFile → Nat → Word → Word → List (Cell × Entry)

/-- A register without an index. -/
def A64Name.reg (n : A64Name) : A64Reg := { name := n, idx := 0 }

/-- A register without an index. -/
def A32Name.reg (n : A32Name) : A32Reg := { name := n, idx := 0 }

end Sys2Proof
end

