-- ==== Sys2Proof/Machine/Setting.lean ====
section
/-! DEFINITION. The one full setting of the parameters the spec names: setting T of 95_test_vectors.md section 2, with the
selectors of the table after 30_encoding.md R76. The state after reset has it (log entry 1). -/

namespace Sys2Proof

/-- The SYSREG64 selectors of the table after R76. -/
def Config.tableSel64 : List (A64Reg × Sel64) :=
  [(A64Name.SCTLR_EL1.reg, ⟨3, 0, 1, 0, 0⟩), (A64Name.TTBR0_EL1.reg, ⟨3, 0, 2, 0, 0⟩),
   (A64Name.TCR_EL1.reg, ⟨3, 0, 2, 0, 2⟩), (A64Name.FAR_EL1.reg, ⟨3, 0, 6, 0, 0⟩),
   (A64Name.MAIR_EL1.reg, ⟨3, 0, 10, 2, 0⟩), (A64Name.VBAR_EL1.reg, ⟨3, 0, 12, 0, 0⟩),
   (A64Name.CONTEXTIDR_EL1.reg, ⟨3, 0, 13, 0, 1⟩), (A64Name.HCR_EL2.reg, ⟨3, 4, 1, 1, 0⟩),
   (A64Name.DACR32_EL2.reg, ⟨3, 4, 3, 0, 0⟩), (A64Name.ID_MMFR0_EL1.reg, ⟨3, 0, 0, 1, 4⟩)]

/-- The CP32 selectors of the table after R76; the two names of an "or" row share one. -/
def Config.tableSel32 : List (A32Reg × Sel32) :=
  [(A32Name.SCTLR.reg, ⟨15, 0, 1, 0, 0⟩), (A32Name.DFAR.reg, ⟨15, 0, 6, 0, 0⟩),
   (A32Name.IFAR.reg, ⟨15, 0, 6, 0, 2⟩), (A32Name.PRRR.reg, ⟨15, 0, 10, 2, 0⟩),
   (A32Name.MAIR0.reg, ⟨15, 0, 10, 2, 0⟩), (A32Name.NMRR.reg, ⟨15, 0, 10, 2, 1⟩),
   (A32Name.MAIR1.reg, ⟨15, 0, 10, 2, 1⟩), (A32Name.VBAR.reg, ⟨15, 0, 12, 0, 0⟩),
   (A32Name.CONTEXTIDR.reg, ⟨15, 0, 13, 0, 1⟩), (A32Name.HCR.reg, ⟨15, 4, 1, 1, 0⟩),
   (A32Name.HCR2.reg, ⟨15, 4, 1, 1, 4⟩), (A32Name.DACR.reg, ⟨15, 0, 3, 0, 0⟩)]

/-- The CP64 selector of the table after R76. -/
def Config.tableSel32x64 : List (A32Reg × Sel32x64) := [(A32Name.TTBR0.reg, ⟨15, 0, 2⟩)]

/-- The contexts at one Exception level. -/
def Config.contextsAt (el : EL) : List Ctx :=
  [⟨.aarch64, el, .secure⟩, ⟨.aarch64, el, .nonSecure⟩, ⟨.aarch32, el, .secure⟩, ⟨.aarch32, el, .nonSecure⟩]

/-- Setting T of 95_test_vectors.md section 2: "a choice made for testing only; it is not a claim about any hardware". -/
def Config.settingT : Config where
  el1CanUseAArch32 := true
  anyELCanUseAArch32 := true
  haveACTLR2 := true
  haveHACTLR2 := true
  haveTTBCR2 := true
  numBRP := 6
  numWRP := 6
  w32Other := [(.HTTBR, 64), (.CNTHP_CVAL, 64), (.CNTHPS_CVAL, 64), (.CNTP_CVAL, 64)]
  footnoteAOff := []
  denied := []
  openBehaviour := []
  rmrSel := (Config.contextsAt .el1).map (fun c => (c, .el1)) ++ (Config.contextsAt .el3).map (fun c => (c, .el3))
  mayShareMore := []
  sysRegSel64 := Config.tableSel64
  sysRegSel32 := Config.tableSel32
  sysRegSel32x64 := Config.tableSel32x64

end Sys2Proof
end

