-- ==== Sys2Proof/Syntax/HostOp.lean ====
section
/-! DEFINITION. What the caller (the host) issues, one item at a time (45_access_operations.md R700): the seven abstract
operations (R704 to R710), the operand moves of the instruction layer (R711), or an instruction word. -/

namespace Sys2Proof

/-- The operations a host issues. A name argument is `none` where the caller's word is no name of the spec
(R702 step 1; vectors A35, A36, B26, C28). -/
inductive HostOp where
  /-- `RESOLVE_STATE(g)` (R704). -/
  | resolveState (g : Option GeneralName)
  /-- `RESOLVE_EL(f)` (R705). -/
  | resolveEL (f : Option GeneralForm)
  /-- `RD64(X)` (R706). -/
  | rd64 (x : Option A64Reg)
  /-- `WR64(X, v)` (R707). -/
  | wr64 (x : Option A64Reg) (v : Word)
  /-- `RD32(r, aw)` (R708). -/
  | rd32 (r : Option A32Reg) (aw : AccessWidth)
  /-- `WR32(r, aw, v)`; the access width is the width of v (R709). -/
  | wr32 (r : Option A32Reg) (v : AccessVal)
  /-- `SETCTX(xs, el, ss)` (R710). -/
  | setCtx (c : Ctx)
  /-- `SETGPR(i, v)` in AArch64 state (R711). -/
  | setX (i : BitVec 5) (v : Word)
  /-- `SETGPR(i, v)` in AArch32 state (R711). -/
  | setR (i : BitVec 4) (v : BitVec 32)
deriving DecidableEq, Repr

/-- One item of the caller's list (R700): an instruction word (R711) or an operation. -/
inductive Pending where
  | word (w : InstrWord)
  | op (o : HostOp)
deriving DecidableEq, Repr

/-- The output of an operation (R701): a list of names, a bit vector, or nothing. -/
inductive Output where
  | nothing
  | refs (l : List RegRef)
  | names (l : List A64Name)
  | value (v : AccessVal)
deriving DecidableEq, Repr

end Sys2Proof
end

