-- ==== Sys2Proof/Machine/State.lean ====
section
/-! DEFINITION. The state of the machine as plain data (10_state.md R38), the one fault (60_exceptions.md R800), the
refusals (45_access_operations.md R701), and the state after reset (70_reset_and_hazards.md R850 to R852). -/

namespace Sys2Proof.Machine

/-- The faults. -/
inductive Fault where
  /-- `Undefined` (R800): an access by `RD64` or `WR64`, or by `MRS` or `MSR`, to one of the five registers of Table
  K14-6 when `EL1CanUseAArch32` is false. The run ends and the state is unchanged. Safe: nothing after it is claimed. -/
  | undefined
deriving DecidableEq, Repr

/-- The refusals: the spec gives the request no meaning (R701). Each is safe: no claim passes through it. -/
inductive Refusal where
  /-- An arm of `exec` that has no meaning yet. Raised by `exec` only; no arm of this model raises it. -/
  | notModelled (mnemonic : String)
  /-- The word matches no pattern of the Execution state (R79, R80). Raised by the fetch of a word. -/
  | noPattern
  /-- The condition field of an A32 word is not 1110 (R78). Raised by the fetch of a word. -/
  | condNotAlways
  /-- `MRC` with Rt = 15 (R77, R715). Raised by the fetch of a word and by `MRC`. -/
  | transferToFlags
  /-- Rt = 15 on `MCR`, Rt or Rt2 = 15 on `MRRC` and `MCRR`, Rt = Rt2 on `MRRC` (R77, R716 to R718). Raised by the
  fetch of a word and by those three instructions. -/
  | registerNotPermitted
  /-- The selector is not in the image of the caller's selector map (R79, R711). Raised by all six instructions. -/
  | selectorNotSupplied
  /-- The source operand is an unknown entry of the operand environment (R711, R714, R716, R718). -/
  | operandUnknown
  /-- "unknown register": a name that is none of the spec's, or an index outside its range (R702 step 1). -/
  | unknownRegister
  /-- "name of the other Execution state" (R702 step 2; R711 for an operand move of the other state). -/
  | otherExecutionState
  /-- "no Exception level can use AArch32" (R702 step 4). -/
  | noLevelUsesAArch32
  /-- "register not implemented" (R702 step 5). -/
  | notImplemented
  /-- "debug data transfer register" (R702 step 6, R27). -/
  | dataTransferRegister
  /-- "access not permitted; outcome not in source" (R702 step 7). -/
  | accessNotPermitted
  /-- "write to a register that is UNKNOWN" (R707). -/
  | writeToUnknown
  /-- "SPSR (general description) is not a register" (R708). -/
  | spsrIsNoRegister
  /-- "access width does not match register width" (R708). -/
  | widthMismatch
  /-- "RMR qualifier" (R708). -/
  | rmrQualifier
  /-- "footnote a, text lost" (R708). -/
  | footnoteA
  /-- "only the MRC/MCR access is mapped" (R708, R712). -/
  | only32BitAccessMapped
  /-- "unknown general name" (R704). -/
  | unknownGeneralName
  /-- "no register of this Execution state" (R704). -/
  | noRegisterOfThisState
  /-- "unknown general form" (R705). -/
  | unknownGeneralForm
  /-- "no register at this Exception level" (R705). -/
  | noRegisterAtThisLevel
  /-- An operand move names an entry the operand environment does not have (R711: R0 to R14). -/
  | noSuchOperand
  /-- The caller's list is exhausted: the run has ended (R700). Raised by `step` only. -/
  | listExhausted
deriving DecidableEq, Repr

/-- What ends an operation without a new state (R701). -/
inductive Stop where
  | fault (f : Fault)
  | refusal (r : Refusal)
deriving DecidableEq, Repr

/-- The whole state (R38), with the operand environment of the instruction layer (R711), the caller's list (R700), the
output of the last operation (R701), the parameters (R38 "Configuration") and the counter of the free values. -/
structure State where
  /-- The parameters, fixed for a run (R38). -/
  cfg : Config
  /-- The context `ctx` (R20). -/
  ctx : Ctx
  /-- `S64`, `known64`, `S32`, `known32` (R22, R24, R25). -/
  regs : RegFile
  /-- The operand environment of AArch64 state, X0 to X30; `none` is "unknown" (R711). -/
  x : Vector (Option Word) 31
  /-- The operand environment of AArch32 state, R0 to R14; `none` is "unknown" (R711). -/
  r : Vector (Option (BitVec 32)) 15
  /-- The model's own: how many free values have been drawn (log entry 5). -/
  draws : Nat
  /-- What the caller has still to issue, in order (R700). -/
  pending : List Pending
  /-- The output of the last operation (R701). -/
  out : Output
deriving DecidableEq, Repr

/-- The result of an operation that gives a value and a new state (R701). -/
abbrev Result (α : Type) := Except Stop α

/-- The state after reset: every cell without a settled value (R850), the context and the parameters the caller's
(R852, here log entries 1 and 2), the operand environment at the value of log entry 4, nothing issued. -/
def State.reset : State where
  cfg := Config.settingT
  ctx := { xs := .aarch64, el := .el1, ss := .nonSecure }
  regs := []
  x := Vector.replicate 31 (some 0)
  r := Vector.replicate 15 (some 0)
  draws := 0
  pending := []
  out := .nothing

end Sys2Proof.Machine
end

