-- ==== Sys2Proof/Machine/Operands.lean ====
section
/-! DEFINITION. The operand environment of the instruction layer (45_access_operations.md R711): every form of operand the
six instructions have. An entry is a value or unknown (`none`); number 31 of AArch64 state reads as zero and discards
writes; AArch32 state has the numbers 0 to 14. -/

namespace Sys2Proof.Machine

/-- The operand X with the given number; `none` is an unknown entry (R711, R714). -/
def readX (s : State) (t : BitVec 5) : Option Word :=
  if h : t.toNat < 31 then s.x[t.toNat] else some 0

/-- `env.X[t] <- v`; number 31 discards the value (R711, R713). -/
def writeX (s : State) (t : BitVec 5) (v : Word) : State :=
  if h : t.toNat < 31 then { s with x := s.x.set t.toNat (some v) } else s

/-- The operand R with the given number; `none` is an unknown entry, and for number 15, which is no entry (R711). -/
def readR (s : State) (t : BitVec 4) : Option (BitVec 32) :=
  if h : t.toNat < 15 then s.r[t.toNat] else none

/-- `env.R[t] <- v`; number 15 is no entry (R711; the instructions refuse it before, R77). -/
def writeR (s : State) (t : BitVec 4) (v : BitVec 32) : State :=
  if h : t.toNat < 15 then { s with r := s.r.set t.toNat (some v) } else s

/-- `env.R[t2] : env.R[t]`: number t2 supplies bits [63:32] (R718). -/
def readPair (s : State) (t t2 : BitVec 4) : Option Word :=
  match readR s t, readR s t2 with
  | some lo, some hi => some (hi ++ lo)
  | _, _ => none

/-- `env.R[t] <- v[31:0]`, then `env.R[t2] <- v[63:32]` (R717). -/
def writePair (s : State) (t t2 : BitVec 4) (v : Word) : State :=
  writeR (writeR s t (v.extractLsb' 0 32)) t2 (v.extractLsb' 32 32)

/-- Every entry of the environment unknown (R710, R711). -/
def forgetOperands (s : State) : State := { s with x := Vector.replicate 31 none, r := Vector.replicate 15 none }

end Sys2Proof.Machine
end

