-- ==== Sys2Proof/Machine/Views.lean ====
section
/-! DEFINITION. Table K14-5 with Tables K14-6 and K14-7 (41_map_general_timer.md R300 to R390,
42_map_debug_pmu_amu_ras.md R400 to R475, 43_aarch32_only_and_id.md R500 to R538): which bits of which AArch64
register an AArch32 name is another name of. The comment of an arm names the rules of its row; a row that the spec
corrects is written as corrected (90_conflicts.md C2 to C10), and the three narrowed rows as C11 reads them. -/

namespace Sys2Proof.Machine

/-- How a row of Table K14-5 names its bits (R303, R304). -/
inductive RangeForm where
  /-- `[31:0]`: 32 bits, bit i to bit i. -/
  | low32
  /-- `[63:32]`: 32 bits, bit i to bit 32+i. -/
  | high32
  /-- `[63:0]`: 64 bits, bit i to bit i. -/
  | full64
  /-- Printed `[63:0]`, asserted for `[31:0]` only (R383, R385, R388; 90_conflicts.md C11). -/
  | narrowed
  /-- No range printed: the whole register over its width, bit i to bit i (R367 to R378, R512, R520 to R538). -/
  | whole
  /-- A range that starts neither at 0 nor at 32: positions are kept (R343, R420). -/
  | kept (hi lo : Nat)
deriving DecidableEq, Repr

/-- The rows whose AArch32 cell is the given name (R16 `View`, R23, R37). The empty list: no row of Tables K14-5 to
K14-7 (R24, and the name `SPSR`, R145). Two entries only for `RMR` (told apart by a qualifier, R23) and the two
AArch32 members of the data transfer set (R309, R402); a row printed twice stands once (R309). -/
def views : A32Name → List (A64Name × RangeForm)
  | .ACTLR => [(.ACTLR_EL1, .low32)]  -- R310
  | .ACTLR2 => [(.ACTLR_EL1, .high32)]  -- R311
  | .ADFSR => [(.AFSR0_EL1, .low32)]  -- R312
  | .AIFSR => [(.AFSR1_EL1, .low32)]  -- R313
  | .AMAIR0 => [(.AMAIR_EL1, .low32)]  -- R314
  | .AMAIR1 => [(.AMAIR_EL1, .high32)]  -- R315
  | .AMCFGR => []
  | .AMCGCR => []
  | .AMCNTENCLR0 => [(.AMCNTENCLR0_EL0, .low32)]  -- R448
  | .AMCNTENCLR1 => [(.AMCNTENCLR1_EL0, .low32)]  -- R449
  | .AMCNTENSET0 => [(.AMCNTENSET0_EL0, .low32)]  -- R450
  | .AMCNTENSET1 => [(.AMCNTENSET1_EL0, .low32)]  -- R451
  | .AMCR => [(.AMCR_EL0, .low32)]  -- R452
  | .AMEVCNTR0n => [(.AMEVCNTR0n_EL0, .full64)]  -- R453
  | .AMEVCNTR1n => [(.AMEVCNTR1n_EL0, .full64)]  -- R454
  | .AMEVTYPER0n => []
  | .AMEVTYPER1n => [(.AMEVTYPER1n_EL0, .low32)]  -- R455
  | .AMUSERENR => []
  | .CNTFRQ => [(.CNTFRQ_EL0, .whole)]  -- R367
  | .CNTHCTL => [(.CNTHCTL_EL2, .whole)]  -- R368
  | .CNTHPS_CTL => [(.CNTHPS_CTL_EL2, .whole)]  -- R372
  | .CNTHPS_CVAL => [(.CNTHPS_CVAL_EL2, .whole)]  -- R373
  | .CNTHPS_TVAL => [(.CNTHPS_TVAL_EL2, .whole)]  -- R374
  | .CNTHP_CTL => [(.CNTHP_CTL_EL2, .whole)]  -- R369
  | .CNTHP_CVAL => [(.CNTHP_CVAL_EL2, .whole)]  -- R370
  | .CNTHP_TVAL => [(.CNTHP_TVAL_EL2, .whole)]  -- R371
  | .CNTHVS_CTL => [(.CNTHVS_CTL_EL2, .low32)]  -- R386
  | .CNTHVS_CVAL => [(.CNTHVS_CVAL_EL2, .full64)]  -- R387
  | .CNTHVS_TVAL => [(.CNTHVS_TVAL_EL2, .narrowed)]  -- R388
  | .CNTHV_CTL => [(.CNTHV_CTL_EL2, .narrowed)]  -- R383
  | .CNTHV_CVAL => [(.CNTHV_CVAL_EL2, .full64)]  -- R384
  | .CNTHV_TVAL => [(.CNTHV_TVAL_EL2, .narrowed)]  -- R385
  | .CNTKCTL => [(.CNTKCTL_EL1, .whole)]  -- R375
  | .CNTPCT => [(.CNTPCT_EL0, .full64)]  -- R379
  | .CNTP_CTL => [(.CNTP_CTL_EL0, .whole)]  -- R376
  | .CNTP_CVAL => [(.CNTP_CVAL_EL0, .whole)]  -- R377
  | .CNTP_TVAL => [(.CNTP_TVAL_EL0, .whole)]  -- R378
  | .CNTVCT => [(.CNTVCT_EL0, .full64)]  -- R389
  | .CNTVOFF => [(.CNTVOFF_EL2, .full64)]  -- R390
  | .CNTV_CTL => [(.CNTV_CTL_EL0, .low32)]  -- R380
  | .CNTV_CVAL => [(.CNTV_CVAL_EL0, .full64)]  -- R381
  | .CNTV_TVAL => [(.CNTV_TVAL_EL0, .low32)]  -- R382
  | .CONTEXTIDR => [(.CONTEXTIDR_EL1, .low32)]  -- R316
  | .CPACR => [(.CPACR_EL1, .low32)]  -- R317
  | .CSSELR => [(.CSSELR_EL1, .low32)]  -- R318
  | .DACR => [(.DACR32_EL2, .low32)]  -- R319, R510
  | .DBGAUTHSTATUS => [(.DBGAUTHSTATUS_EL1, .low32)]  -- R405
  | .DBGBCRn => [(.DBGBCRn_EL1, .low32)]  -- R406
  | .DBGBVRn => [(.DBGBVRn_EL1, .low32)]  -- R407
  | .DBGBXVRn => [(.DBGBVRn_EL1, .high32)]  -- R408
  | .DBGCLAIMCLR => [(.DBGCLAIMCLR_EL1, .low32)]  -- R409
  | .DBGCLAIMSET => [(.DBGCLAIMSET_EL1, .low32)]  -- R410
  | .DBGDCCINT => []
  | .DBGDRAR => [(.MDRAR_EL1, .full64)]  -- R422
  | .DBGDSCRext => [(.MDSCR_EL1, .low32)]  -- R423
  | .DBGDSCRint => [(.MDCCSR_EL0, .kept 30 29)]  -- R420
  | .DBGDTRRXext => [(.OSDTRRX_EL1, .low32)]  -- R425
  | .DBGDTRRXint => [(.DBGDTR_EL0, .high32), (.DBGDTRRX_EL0, .low32)]  -- R411, R413
  | .DBGDTRTXext => [(.OSDTRTX_EL1, .low32)]  -- R426
  | .DBGDTRTXint => [(.DBGDTR_EL0, .low32), (.DBGDTRTX_EL0, .low32)]  -- R412, R414
  | .DBGOSDLR => [(.OSDLR_EL1, .low32)]  -- R424
  | .DBGOSECCR => [(.OSECCR_EL1, .low32)]  -- R427
  | .DBGOSLAR => [(.OSLAR_EL1, .low32)]  -- R428
  | .DBGOSLSR => [(.OSLSR_EL1, .low32)]  -- R429
  | .DBGPRCR => [(.DBGPRCR_EL1, .low32)]  -- R415
  | .DBGVCR => [(.DBGVCR32_EL2, .low32)]  -- R416, R511
  | .DBGWCRn => [(.DBGWCRn_EL1, .low32)]  -- R417
  | .DBGWVRn => [(.DBGWVRn_EL1, .low32)]  -- R418
  | .DFAR => [(.FAR_EL1, .low32)]  -- R320
  | .DFSR => [(.ESR_EL1, .low32)]  -- R321
  | .DISR => [(.DISR_EL1, .low32)]  -- R456
  | .DLR => []
  | .DSPSR => []
  | .DSPSR2 => []
  | .ERRIDR => [(.ERRIDR_EL1, .low32)]  -- R457
  | .ERRSELR => [(.ERRSELR_EL1, .low32)]  -- R458
  | .ERXADDR => [(.ERXADDR_EL1, .low32)]  -- R459
  | .ERXADDR2 => [(.ERXADDR_EL1, .high32)]  -- R460
  | .ERXCTLR => [(.ERXCTLR_EL1, .low32)]  -- R461
  | .ERXCTLR2 => [(.ERXCTLR_EL1, .high32)]  -- R462
  | .ERXFR => [(.ERXFR_EL1, .low32)]  -- R463
  | .ERXFR2 => [(.ERXFR_EL1, .high32)]  -- R464
  | .ERXMISC0 => [(.ERXMISC0_EL1, .low32)]  -- R465
  | .ERXMISC1 => [(.ERXMISC0_EL1, .high32)]  -- R466
  | .ERXMISC2 => [(.ERXMISC1_EL1, .low32)]  -- R467
  | .ERXMISC3 => [(.ERXMISC1_EL1, .high32)]  -- R468
  | .ERXMISC4 => [(.ERXMISC2_EL1, .low32)]  -- R469
  | .ERXMISC5 => [(.ERXMISC2_EL1, .high32)]  -- R470
  | .ERXMISC6 => [(.ERXMISC3_EL1, .low32)]  -- R471
  | .ERXMISC7 => [(.ERXMISC3_EL1, .high32)]  -- R472
  | .ERXSTATUS => [(.ERXSTATUS_EL1, .low32)]  -- R473
  | .FPEXC => [(.FPEXC32_EL2, .whole)]  -- R512
  | .HACR => [(.HACR_EL2, .low32)]  -- R322
  | .HACTLR => [(.ACTLR_EL2, .low32)]  -- R323
  | .HACTLR2 => [(.ACTLR_EL2, .high32)]  -- R324
  | .HADFSR => [(.AFSR0_EL2, .low32)]  -- R325
  | .HAIFSR => [(.AFSR1_EL2, .low32)]  -- R326
  | .HAMAIR0 => [(.AMAIR_EL2, .low32)]  -- R327
  | .HAMAIR1 => [(.AMAIR_EL2, .high32)]  -- R328
  | .HCPTR => [(.CPTR_EL2, .low32)]  -- R329
  | .HCR => [(.HCR_EL2, .low32)]  -- R330
  | .HCR2 => [(.HCR_EL2, .high32)]  -- R331
  | .HDCR => [(.MDCR_EL2, .low32)]  -- R332, R421
  | .HDFAR => [(.FAR_EL2, .low32)]  -- R333
  | .HIFAR => [(.FAR_EL2, .high32)]  -- R334
  | .HMAIR0 => [(.MAIR_EL2, .low32)]  -- R335
  | .HMAIR1 => [(.MAIR_EL2, .high32)]  -- R336
  | .HPFAR => [(.HPFAR_EL2, .low32)]  -- R337
  | .HRMR => [(.RMR_EL2, .low32)]  -- R351
  | .HSCTLR => [(.SCTLR_EL2, .low32)]  -- R338
  | .HSR => [(.ESR_EL2, .low32)]  -- R339
  | .HSTR => [(.HSTR_EL2, .low32)]  -- R340
  | .HTCR => [(.TCR_EL2, .low32)]  -- R341
  | .HTPIDR => [(.TPIDR_EL2, .low32)]  -- R342
  | .HTTBR => [(.TTBR0_EL2, .kept 47 1)]  -- R343
  | .HVBAR => [(.VBAR_EL2, .low32)]  -- R344
  | .ID_AFR0 => [(.ID_AFR0_EL1, .whole)]  -- R520
  | .ID_DFR0 => [(.ID_DFR0_EL1, .low32)]  -- R419, R521
  | .ID_DFR1 => [(.ID_DFR1_EL1, .whole)]  -- R522
  | .ID_ISAR0 => [(.ID_ISAR0_EL1, .whole)]  -- R523
  | .ID_ISAR1 => [(.ID_ISAR1_EL1, .whole)]  -- R524
  | .ID_ISAR2 => [(.ID_ISAR2_EL1, .whole)]  -- R525
  | .ID_ISAR3 => [(.ID_ISAR3_EL1, .whole)]  -- R526
  | .ID_ISAR4 => [(.ID_ISAR4_EL1, .whole)]  -- R527
  | .ID_ISAR5 => [(.ID_ISAR5_EL1, .whole)]  -- R528
  | .ID_ISAR6 => [(.ID_ISAR6_EL1, .whole)]  -- R529
  | .ID_MMFR0 => [(.ID_MMFR0_EL1, .whole)]  -- R530
  | .ID_MMFR1 => [(.ID_MMFR1_EL1, .whole)]  -- R531
  | .ID_MMFR2 => [(.ID_MMFR2_EL1, .whole)]  -- R532
  | .ID_MMFR3 => [(.ID_MMFR3_EL1, .whole)]  -- R533
  | .ID_MMFR4 => [(.ID_MMFR4_EL1, .whole)]  -- R534
  | .ID_MMFR5 => [(.ID_MMFR5_EL1, .whole)]  -- R535
  | .ID_PFR0 => [(.ID_PFR0_EL1, .whole)]  -- R536
  | .ID_PFR1 => [(.ID_PFR1_EL1, .whole)]  -- R537
  | .ID_PFR2 => [(.ID_PFR2_EL1, .whole)]  -- R538
  | .IFAR => [(.FAR_EL1, .high32)]  -- R345
  | .IFSR => [(.IFSR32_EL2, .low32)]  -- R346, R513
  | .ISR => []
  | .MAIR0 => [(.MAIR_EL1, .low32)]  -- R349
  | .MAIR1 => [(.MAIR_EL1, .high32)]  -- R347
  | .MPIDR => []
  | .MVBAR => []
  | .NMRR => [(.MAIR_EL1, .high32)]  -- R347
  | .PAR => [(.PAR_EL1, .full64)]  -- R348
  | .PMCCFILTR => []
  | .PMCCNTR => [(.PMCCNTR_EL0, .low32)]  -- R431
  | .PMCEID0 => [(.PMCEID0_EL0, .low32)]  -- R432
  | .PMCEID1 => [(.PMCEID1_EL0, .low32)]  -- R434
  | .PMCEID2 => [(.PMCEID0_EL0, .high32)]  -- R433
  | .PMCEID3 => [(.PMCEID1_EL0, .high32)]  -- R435
  | .PMCNTENCLR => [(.PMCNTENCLR_EL0, .low32)]  -- R436
  | .PMCNTENSET => [(.PMCNTENSET_EL0, .low32)]  -- R437
  | .PMCR => [(.PMCR_EL0, .low32)]  -- R438
  | .PMEVCNTRn => [(.PMEVCNTRn_EL0, .low32)]  -- R439
  | .PMEVTYPERn => [(.PMEVTYPERn_EL0, .low32)]  -- R440
  | .PMINTENCLR => [(.PMINTENCLR_EL1, .low32)]  -- R441
  | .PMINTENSET => [(.PMINTENSET_EL1, .low32)]  -- R442
  | .PMMIR => []
  | .PMOVSR => []
  | .PMOVSSET => []
  | .PMSELR => [(.PMSELR_EL0, .low32)]  -- R443
  | .PMSWINC => [(.PMSWINC_EL0, .low32)]  -- R444
  | .PMUSERENR => [(.PMUSERENR_EL0, .low32)]  -- R445
  | .PMXEVCNTR => [(.PMXEVCNTR_EL0, .low32)]  -- R446
  | .PMXEVTYPER => [(.PMXEVTYPER_EL0, .low32)]  -- R447
  | .PRRR => [(.MAIR_EL1, .low32)]  -- R349
  | .RMR => [(.RMR_EL1, .low32), (.RMR_EL3, .low32)]  -- R350, R352
  | .SCR => []
  | .SCTLR => [(.SCTLR_EL1, .low32)]  -- R353
  | .SDCR => []
  | .SDER => [(.SDER32_EL3, .low32)]  -- R354, R430, R514
  | .SPSR => []
  | .SPSR_abt => []
  | .SPSR_fiq => []
  | .SPSR_hyp => []
  | .SPSR_irq => []
  | .SPSR_mon => []
  | .SPSR_svc => []
  | .TPIDRPRW => [(.TPIDR_EL1, .low32)]  -- R355
  | .TPIDRURO => [(.TPIDRRO_EL0, .low32)]  -- R356
  | .TPIDRURW => [(.TPIDR_EL0, .low32)]  -- R357
  | .TTBCR => [(.TCR_EL1, .low32)]  -- R358
  | .TTBCR2 => [(.TCR_EL1, .high32)]  -- R359
  | .TTBR0 => [(.TTBR0_EL1, .full64)]  -- R360
  | .TTBR1 => [(.TTBR1_EL1, .full64)]  -- R361
  | .VBAR => [(.VBAR_EL1, .low32)]  -- R362
  | .VDFSR => [(.VSESR_EL2, .low32)]  -- R475
  | .VDISR => [(.VDISR_EL2, .low32)]  -- R474
  | .VMPIDR => [(.VMPIDR_EL2, .low32)]  -- R363
  | .VPIDR => [(.VPIDR_EL2, .low32)]  -- R364
  | .VTCR => [(.VTCR_EL2, .low32)]  -- R365
  | .VTTBR => [(.VTTBR_EL2, .full64)]  -- R366

/-- The AArch32 entries printed with footnote marker `a`, whose text is lost (R306). -/
def carriesFootnoteA : A32Name → Bool
  | .ACTLR | .ACTLR2 | .ADFSR | .AIFSR | .AMAIR0 | .AMAIR1 | .CNTP_CTL | .CNTP_CVAL | .CNTP_TVAL
  | .CONTEXTIDR | .CSSELR | .DACR | .DFAR | .DFSR | .IFAR | .IFSR | .MAIR0 | .MAIR1 | .NMRR | .PAR
  | .PRRR | .SCTLR | .TPIDRPRW | .TPIDRURO | .TPIDRURW | .TTBCR | .TTBCR2 | .TTBR0 | .TTBR1 | .VBAR => true
  | _ => false

/-- The groups of rows of Table K14-5 (R70, R400): the general one before the first heading, and the five headed ones. -/
inductive RowGroup where
  | general
  /-- "Timer registers". -/
  | timer
  /-- "Debug System registers". -/
  | debug
  /-- "Performance Monitors System registers". -/
  | performanceMonitors
  /-- "Activity Monitors System registers". -/
  | activityMonitors
  /-- "RAS System registers". -/
  | ras
deriving DecidableEq, Repr

/-- The heading under which a name's row stands; `none` for a row of the general group and for a name without a row of
Table K14-5. -/
def headedGroup : A32Name → Option RowGroup
  | .CNTFRQ | .CNTHCTL | .CNTHPS_CTL | .CNTHPS_CVAL | .CNTHPS_TVAL | .CNTHP_CTL | .CNTHP_CVAL | .CNTHP_TVAL
  | .CNTHVS_CTL | .CNTHVS_CVAL | .CNTHVS_TVAL | .CNTHV_CTL | .CNTHV_CVAL | .CNTHV_TVAL | .CNTKCTL | .CNTPCT
  | .CNTP_CTL | .CNTP_CVAL | .CNTP_TVAL | .CNTVCT | .CNTVOFF | .CNTV_CTL | .CNTV_CVAL | .CNTV_TVAL => some .timer
  | .DBGAUTHSTATUS | .DBGBCRn | .DBGBVRn | .DBGBXVRn | .DBGCLAIMCLR | .DBGCLAIMSET | .DBGDRAR | .DBGDSCRext
  | .DBGDSCRint | .DBGDTRRXext | .DBGDTRRXint | .DBGDTRTXext | .DBGDTRTXint | .DBGOSDLR | .DBGOSECCR
  | .DBGOSLAR | .DBGOSLSR | .DBGPRCR | .DBGVCR | .DBGWCRn | .DBGWVRn | .HDCR | .ID_DFR0 | .SDER => some .debug
  | .PMCCNTR | .PMCEID0 | .PMCEID1 | .PMCEID2 | .PMCEID3 | .PMCNTENCLR | .PMCNTENSET | .PMCR | .PMEVCNTRn
  | .PMEVTYPERn | .PMINTENCLR | .PMINTENSET | .PMSELR | .PMSWINC | .PMUSERENR | .PMXEVCNTR | .PMXEVTYPER => some .performanceMonitors
  | .AMCNTENCLR0 | .AMCNTENCLR1 | .AMCNTENSET0 | .AMCNTENSET1 | .AMCR | .AMEVCNTR0n | .AMEVCNTR1n
  | .AMEVTYPER1n => some .activityMonitors
  | .DISR | .ERRIDR | .ERRSELR | .ERXADDR | .ERXADDR2 | .ERXCTLR | .ERXCTLR2 | .ERXFR | .ERXFR2 | .ERXMISC0
  | .ERXMISC1 | .ERXMISC2 | .ERXMISC3 | .ERXMISC4 | .ERXMISC5 | .ERXMISC6 | .ERXMISC7 | .ERXSTATUS | .VDFSR
  | .VDISR => some .ras
  | _ => none

/-- The groups in which a name has a row: `HDCR` and `SDER` are printed in two (R309); the names of Table K14-7 other than
`ID_DFR0`, and `FPEXC`, are in none, having no row of Table K14-5 (R505, R512). -/
def rowGroups (r : A32Name) : List RowGroup :=
  match headedGroup r with
  | some g => if r = .HDCR ∨ r = .SDER then [.general, g] else [g]
  | none => if (views r).isEmpty || (views r).any (fun p => p.2 == .whole) then [] else [.general]

end Sys2Proof.Machine
end

