-- ==== Sys2Proof/Machine/Params.lean ====
section
/-! DEFINITION. The open parameters as the functions the spec writes (00_scope.md R6 to R12, 10_state.md R23, R26), read
off the finite lists of `Config`, and the sets of names the rules speak of. -/

namespace Sys2Proof.Machine

/-- The value a finite list of pairs gives a key: the first that is listed. -/
def lookup {α β : Type} [DecidableEq α] : List (α × β) → α → Option β
  | [], _ => none
  | (a, b) :: rest, k => if a = k then some b else lookup rest k

/-! ### Indices (R9, R64) -/

/-- Which family of indices a name belongs to (R9). -/
inductive IndexKind where
  /-- No placeholder. -/
  | single
  /-- `DBGBCR`, `DBGBVR`, `DBGBXVR`: n below `NumBRP`. -/
  | breakpoint
  /-- `DBGWCR`, `DBGWVR`: n below `NumWRP`. -/
  | watchpoint
  /-- `PMEVCNTR`, `PMEVTYPER`: n = 0-30. -/
  | pmu
  /-- `AMEVCNTR0`, `AMEVCNTR1`, `AMEVTYPER0`, `AMEVTYPER1`: n = 0-15. -/
  | amu
deriving DecidableEq, Repr

/-- How many registers a family has (R9). -/
def IndexKind.count (cfg : Config) : IndexKind → Nat
  | .single => 1
  | .breakpoint => cfg.numBRP
  | .watchpoint => cfg.numWRP
  | .pmu => 31
  | .amu => 16

/-- The names of `A64Name` printed with a placeholder (R64). -/
def indexKind64 : A64Name → IndexKind
  | .DBGBCRn_EL1 | .DBGBVRn_EL1 => .breakpoint
  | .DBGWCRn_EL1 | .DBGWVRn_EL1 => .watchpoint
  | .PMEVCNTRn_EL0 | .PMEVTYPERn_EL0 => .pmu
  | .AMEVCNTR0n_EL0 | .AMEVCNTR1n_EL0 | .AMEVTYPER0n_EL0 | .AMEVTYPER1n_EL0 => .amu
  | _ => .single

/-- The names of `A32Name` printed with a placeholder (R64). -/
def indexKind32 : A32Name → IndexKind
  | .DBGBCRn | .DBGBVRn | .DBGBXVRn => .breakpoint
  | .DBGWCRn | .DBGWVRn => .watchpoint
  | .PMEVCNTRn | .PMEVTYPERn => .pmu
  | .AMEVCNTR0n | .AMEVCNTR1n | .AMEVTYPER0n | .AMEVTYPER1n => .amu
  | _ => .single

/-- The register's index is in the range of R9 (R702 step 1). -/
def indexOk (cfg : Config) : RegName → Bool
  | .a64 x => decide (x.idx < (indexKind64 x.name).count cfg)
  | .a32 r => decide (r.idx < (indexKind32 r.name).count cfg)

/-! ### The named sets -/

/-- The five AArch64 registers of Table K14-6 (43_aarch32_only_and_id.md R501, R510 to R514). -/
def inTableK14_6 : A64Name → Bool
  | .DACR32_EL2 | .DBGVCR32_EL2 | .FPEXC32_EL2 | .IFSR32_EL2 | .SDER32_EL3 => true
  | _ => false

/-- The nineteen AArch64 registers of Table K14-7 (R505, R520 to R538). -/
def inTableK14_7 : A64Name → Bool
  | .ID_AFR0_EL1 | .ID_DFR0_EL1 | .ID_DFR1_EL1 | .ID_ISAR0_EL1 | .ID_ISAR1_EL1 | .ID_ISAR2_EL1 | .ID_ISAR3_EL1
  | .ID_ISAR4_EL1 | .ID_ISAR5_EL1 | .ID_ISAR6_EL1 | .ID_MMFR0_EL1 | .ID_MMFR1_EL1 | .ID_MMFR2_EL1 | .ID_MMFR3_EL1
  | .ID_MMFR4_EL1 | .ID_MMFR5_EL1 | .ID_PFR0_EL1 | .ID_PFR1_EL1 | .ID_PFR2_EL1 => true
  | _ => false

/-- The AArch64 members of `DTRSet` (10_state.md R27). -/
def inDTRSet64 : A64Name → Bool
  | .DBGDTR_EL0 | .DBGDTRRX_EL0 | .DBGDTRTX_EL0 => true
  | _ => false

/-- The AArch32 members of `DTRSet` (R27). -/
def inDTRSet32 : A32Name → Bool
  | .DBGDTRRXint | .DBGDTRTXint => true
  | _ => false

/-- `DTRSet` (R27). -/
def inDTRSet : RegName → Bool
  | .a64 x => inDTRSet64 x.name
  | .a32 r => inDTRSet32 r.name

/-- The register is printed "if implemented" and its parameter is false (R8, R702 step 5). -/
def notImplemented (cfg : Config) : RegName → Bool
  | .a64 _ => false
  | .a32 r =>
    match r.name with
    | .ACTLR2 => !cfg.haveACTLR2
    | .HACTLR2 => !cfg.haveHACTLR2
    | .TTBCR2 => !cfg.haveTTBCR2
    | _ => false

/-! ### Widths (R10) -/

/-- The width a printed range fixes; `none` where `W32` is open (R10, R304). -/
def RangeForm.fixedWidth : RangeForm → Option Nat
  | .low32 | .high32 => some 32
  | .full64 => some 64
  | .narrowed | .whole | .kept _ _ => none

/-- The width the printed range of the name's row fixes, where there is one. -/
def fixedWidth (r : A32Name) : Option Nat := (views r).head?.bind (fun row => row.2.fixedWidth)

/-- `W32` (R10): fixed by a printed range of 32 or of 64 bits, else the caller's. -/
def w32 (cfg : Config) (r : A32Name) : Nat :=
  match fixedWidth r with
  | some w => w
  | none => (lookup cfg.w32Other r).getD 32

/-- The least width R10 admits for a name whose width is open. -/
def w32Least : A32Name → Nat
  | .HTTBR => 48
  | .DBGDSCRint => 31
  | .CNTHV_CTL | .CNTHV_TVAL | .CNTHVS_TVAL => 32
  | _ => 0

/-! ### The other parameters -/

/-- `FootnoteA` (R11, R306): constantly true for an entry without the marker. -/
def footnoteA (cfg : Config) (r : A32Name) (ctx : Ctx) : Bool :=
  !carriesFootnoteA r || !cfg.footnoteAOff.contains (r, ctx)

/-- `Accessible` (R12). -/
def accessible (cfg : Config) (ctx : Ctx) (r : RegName) (k : AccessKind) : Bool := !cfg.denied.contains (ctx, r, k)

/-- `Behaviour` (45_access_operations.md R703): `none` is `PLAIN`, `some b` a behaviour the spec leaves open. -/
def behaviour (cfg : Config) (c : Cell) : Option Nat := lookup cfg.openBehaviour c

/-- `RMRSel` (10_state.md R23). -/
def rmrSel (cfg : Config) (ctx : Ctx) : Option RmrChoice := lookup cfg.rmrSel ctx

/-- The register a selector map gives to a selector, the inverse of the caller's map (R76, R711): where the two names of
an "or" row share a selector, the one listed first (log entry 13). -/
def selected {α β : Type} [DecidableEq β] : List (α × β) → β → Option α
  | [], _ => none
  | (a, b) :: rest, k => if b = k then some a else selected rest k

/-! ### Registers that may share bits (R26, R28) -/

/-- The cells of the four rows that carry footnote marker `b` (R26 (a), R401). -/
def carriesFootnoteB : A64Name → Bool
  | .MDCCSR_EL0 | .MDSCR_EL1 | .OSDTRRX_EL1 | .OSDTRTX_EL1 => true
  | _ => false

/-- The table of R26 (b): the AArch64 names in the other cell of the row of a name without a view. -/
def rowMates : A32Name → List A64Name
  | .DBGDCCINT => [.MDCCINT_EL1]
  | .DLR => [.DLR_EL0]
  | .DSPSR | .DSPSR2 => [.DSPSR_EL0]
  | .ISR => [.ISR_EL1]
  | .MPIDR => [.MPIDR_EL1]
  | .PMMIR => [.PMMIR_EL1]
  | .SCR => [.SCR_EL3]
  | .SDCR => [.MDCR_EL3]
  | .SPSR_abt | .SPSR_fiq | .SPSR_hyp | .SPSR_irq | .SPSR_mon | .SPSR_svc => [.SPSR_EL1, .SPSR_EL2, .SPSR_EL3]
  | .MVBAR => [.VBAR_EL1, .VBAR_EL2, .VBAR_EL3]
  | .PMCCFILTR => [.PMCCFILTR_EL0]
  | .PMOVSR => [.PMOVSCLR_EL0]
  | .PMOVSSET => [.PMOVSSET_EL0]
  | .AMCFGR => [.AMCFGR_EL0]
  | .AMCGCR => [.AMCGCR_EL0]
  | .AMEVTYPER0n => [.AMEVTYPER0n_EL0]
  | .AMUSERENR => [.AMUSERENR_EL0]
  | _ => []

/-- The least relation of R26 on cells, one direction of (b); an indexed row relates equal indices (R64). -/
def leastShare : Cell → Cell → Bool
  | .s64 x, .s64 y => carriesFootnoteB x.name && carriesFootnoteB y.name
  | .s32 r, .s64 x => (rowMates r.name).contains x.name && r.idx == x.idx
  | _, _ => false

/-- `MayShare` on cells (R26, R28): the least relation and the pairs the caller adds, symmetric. A cell is no partner of
itself: what a write does to its own cell the write itself determines (R26, log entry 23). -/
def mayShare (cfg : Config) (c d : Cell) : Bool :=
  c != d && (leastShare c d || leastShare d c || cfg.mayShareMore.contains (c, d) || cfg.mayShareMore.contains (d, c))

/-! ### Which cells exist, and which parameters are legal -/

/-- The cells of the state (R22, R24, R38): an index in range, no member of `DTRSet`, and on the AArch32 side only the
names without a view, `SPSR` apart. -/
def cellExists (cfg : Config) : Cell → Bool
  | .s64 x => indexOk cfg (.a64 x) && !inDTRSet64 x.name
  | .s32 r => indexOk cfg (.a32 r) && (views r.name).isEmpty && r.name != .SPSR

/-- The width of a cell: 64 (R22), or `W32` of the name (R24). -/
def cellWidth (cfg : Config) : Cell → Nat
  | .s64 _ => 64
  | .s32 r => w32 cfg r.name

/-- The two names of an "or" row, which may share a selector (R76, R307). -/
def orRow (a b : A32Name) : Bool :=
  decide ((a, b) ∈ [(A32Name.PRRR, A32Name.MAIR0), (.MAIR0, .PRRR), (.NMRR, .MAIR1), (.MAIR1, .NMRR)])

/-- What the spec asks of the parameters: R6 implies R7 (R506), the bounds of `W32` (R10), and selector maps that are
injective but for the "or" rows (R76). -/
def configLegal (cfg : Config) : Bool :=
  (!cfg.el1CanUseAArch32 || cfg.anyELCanUseAArch32) &&
  A32Name.all.all (fun r => decide (w32Least r ≤ w32 cfg r) && decide (w32 cfg r ≤ 64)) &&
  cfg.sysRegSel64.all (fun p => cfg.sysRegSel64.all (fun q => p.2 != q.2 || p.1 == q.1)) &&
  cfg.sysRegSel32.all (fun p => cfg.sysRegSel32.all (fun q => p.2 != q.2 || p.1 == q.1 || orRow p.1.name q.1.name)) &&
  cfg.sysRegSel32x64.all (fun p => cfg.sysRegSel32x64.all (fun q => p.2 != q.2 || p.1 == q.1))

end Sys2Proof.Machine
end

