-- ==== Sys2Proof/Machine/RegFile.lean ====
section
/-! DEFINITION. The register file: the cells `S64` and `S32` with their masks `known64` and `known32` (10_state.md R22,
R24, R25, R38) as one list in a canonical form. A cell that is not listed is `Entry.blank`: no bit of it has a settled
value (R25, R850). -/

namespace Sys2Proof.Machine

/-- What a cell holds. -/
def cellGet : RegFile → Cell → Entry
  | [], _ => .blank
  | (d, e) :: rest, c => if d = c then e else cellGet rest c

/-- The register file without a cell's entry. -/
def cellErase (rf : RegFile) (c : Cell) : RegFile := rf.filter (fun p => p.1 ≠ c)

/-- An entry put at its place in the order of the keys. -/
def cellInsert (c : Cell) (e : Entry) : RegFile → RegFile
  | [] => [(c, e)]
  | (d, f) :: rest => if c.key < d.key then (c, e) :: (d, f) :: rest else (d, f) :: cellInsert c e rest

/-- A cell given an entry. The blank entry is not listed. -/
def cellSet (rf : RegFile) (c : Cell) (e : Entry) : RegFile :=
  if e = .blank then cellErase rf c else cellInsert c e (cellErase rf c)

/-- An entry none of whose bits has a settled value: the stored bits stay, `known <- 0` (R703). -/
def forgetEntry (e : Entry) : Entry := { e with known := 0 }

/-- `known <- 0` for every cell that may share bits with a written one (R26, R703). -/
def forgetPartners (cfg : Config) (c : Cell) (rf : RegFile) : RegFile :=
  (rf.map (fun p => if mayShare cfg c p.1 then (p.1, forgetEntry p.2) else p)).filter (fun p => p.2 ≠ .blank)

/-- An entry cut to the width of its cell. -/
def cutEntry (cfg : Config) (c : Cell) (e : Entry) : Entry :=
  let m := (BitVec.allOnes (cellWidth cfg c)).setWidth 64
  { val := e.val &&& m, known := e.known &&& m }

/-- The changes an open behaviour makes (R703): only cells of the state can change (R38). -/
def applyChanges (cfg : Config) (rf : RegFile) (changes : List (Cell × Entry)) : RegFile :=
  changes.foldl (fun f p => if cellExists cfg p.1 then cellSet f p.1 (cutEntry cfg p.1 p.2) else f) rf

/-- The canonical form: keys strictly rising, no blank entry. -/
abbrev regsCanonical (rf : RegFile) : Prop :=
  rf.Pairwise (fun p q => p.1.key < q.1.key) ∧ ∀ p ∈ rf, p.2 ≠ Entry.blank

/-- Every listed cell is a cell of the state and holds no bit beyond its width (R22, R24, R27, R38). -/
abbrev regsFit (cfg : Config) (rf : RegFile) : Prop :=
  ∀ p ∈ rf, cellExists cfg p.1 = true ∧ cutEntry cfg p.1 p.2 = p.2

end Sys2Proof.Machine
end

