-- ==== Sys2Proof/Machine/Ops.lean ====
section
/-! DEFINITION. The seven operations of the spec over the register state (45_access_operations.md R700 to R710), the
checks and the location of storage they share, and the one fault (60_exceptions.md R800). An operation does all its
checks first and changes the state in one step (70_reset_and_hazards.md R857). -/

namespace Sys2Proof.Machine

/-! ### How an operation ends -/

/-- `refuse(reason)` (R701). -/
def refuse {α : Type} (r : Refusal) : Result α := .error (.refusal r)

/-- `raise Undefined(r)` (R800), the only exception the spec gives the machine. Nothing is saved, the context does not
change, no vector is consulted: the spec describes no entry into a handler (R804) and no return (R805), so taking it
ends the run with the state unchanged. -/
def raiseUndefined : Stop := .fault .undefined

/-- The outcome of a stop. -/
def stopped : Stop → Host.Outcome State Fault Refusal
  | .fault f => .fault f
  | .refusal r => .refused r

/-! ### Free values (R15, R25; log entry 5) -/

/-- `draw(64)`: the next fresh value. Nothing about it can be proved (R719 (f)). -/
def draw (s : State) : Word := Config.freshDraw s.draws

/-- The state after a draw. -/
def drawn (s : State) : State := { s with draws := s.draws + 1 }

/-! ### `Behaviour` (R703) -/

/-- `rd(c, Sigma, m)`: the value read and the state after. Both names of an alias pair read through it (R703, R719 (a)). -/
def rdCell (c : Cell) (m : Word) (s : State) : Word × State :=
  match behaviour s.cfg c with
  | none =>
    let e := cellGet s.regs c
    (mix e.known e.val (draw s), drawn s)
  | some b =>
    let a := Config.openRd b c s.ctx s.regs s.draws m
    (a.1, { drawn s with regs := applyChanges s.cfg s.regs a.2 })

/-- What `PLAIN.wr` leaves in the written cell. -/
def plainWrite (e : Entry) (m v : Word) : Entry := { val := mix m v e.val, known := e.known ||| m }

/-- `wr(c, Sigma, m, v)`: the state after. Both names of an alias pair write through it; under `PLAIN` it leaves every cell
alone that is neither c nor a partner of c (R703, R719 (b), (d)). -/
def wrCell (c : Cell) (m v : Word) (s : State) : State :=
  match behaviour s.cfg c with
  | none => { s with regs := cellSet (forgetPartners s.cfg c s.regs) c (plainWrite (cellGet s.regs c) m v) }
  | some b => { drawn s with regs := applyChanges s.cfg s.regs (Config.openWr b c s.ctx s.regs s.draws m v) }

/-- `known64[X][63:32] <- 0` (R709, 90_conflicts.md C11). -/
def forgetUpper (c : Cell) (s : State) : State :=
  let e := cellGet s.regs c
  { s with regs := cellSet s.regs c { e with known := e.known &&& mask 31 0 } }

/-! ### The checks (R702) -/

/-- The Execution state a name belongs to (R21, R702 step 2). -/
def nameState : RegName → ExecState
  | .a64 _ => .aarch64
  | .a32 _ => .aarch32

/-- The register is one of Table K14-6 and EL1 cannot use AArch32 (R501, R702 step 3). -/
def isUndefined (cfg : Config) : RegName → Bool
  | .a64 x => inTableK14_6 x.name && !cfg.el1CanUseAArch32
  | .a32 _ => false

/-- The checks of R702, in its order; the first that applies decides. `none`: the access goes on. -/
def accessStop (cfg : Config) (ctx : Ctx) (r : RegName) (k : AccessKind) : Option Stop :=
  if indexOk cfg r = false then some (.refusal .unknownRegister)
  else if nameState r ≠ ctx.xs then some (.refusal .otherExecutionState)
  else if isUndefined cfg r = true then some raiseUndefined
  else if nameState r = .aarch32 ∧ cfg.anyELCanUseAArch32 = false then some (.refusal .noLevelUsesAArch32)
  else if notImplemented cfg r = true then some (.refusal .notImplemented)
  else if inDTRSet r = true then some (.refusal .dataTransferRegister)
  else if accessible cfg ctx r k = false then some (.refusal .accessNotPermitted)
  else none

/-- The register is one of Table K14-7 and no Exception level can use AArch32 (R505). -/
def isUnknown (cfg : Config) (x : A64Reg) : Bool := inTableK14_7 x.name && !cfg.anyELCanUseAArch32

/-! ### Where an AArch32 register is stored (R708 `locate`) -/

/-- The storage of an AArch32 register. -/
inductive Loc where
  /-- `own(c, w)`: a cell of its own. -/
  | own (c : Cell) (w : Nat)
  /-- `view(X, hi, lo, shifted)`; `narrowed` marks the three rows of 90_conflicts.md C11. -/
  | view (c : Cell) (hi lo : Nat) (shifted narrowed : Bool)
deriving DecidableEq, Repr

/-- The cell of a location. -/
def Loc.cell : Loc → Cell
  | .own c _ => c
  | .view c _ _ _ _ => c

/-- The highest bit of the cell a location names. -/
def Loc.hi : Loc → Nat
  | .own _ w => w - 1
  | .view _ hi _ _ _ => hi

/-- The lowest bit of the cell a location names. -/
def Loc.lo : Loc → Nat
  | .own _ _ => 0
  | .view _ _ lo _ _ => lo

/-- Bit lo of the cell is bit 0 of the register (R304). -/
def Loc.shifted : Loc → Bool
  | .own _ _ => true
  | .view _ _ _ sh _ => sh

/-- How far the bits of the register stand below those of the cell: bit i of the cell is bit i - shift. -/
def Loc.shift (l : Loc) : Nat := if l.shifted then l.lo else 0

/-- The row is one of the three narrowed ones (90_conflicts.md C11). -/
def Loc.narrowed : Loc → Bool
  | .own _ _ => false
  | .view _ _ _ _ n => n

/-- The bits of the AArch64 register a row names. -/
def RangeForm.bits (w : Nat) : RangeForm → Nat × Nat
  | .low32 | .narrowed => (31, 0)
  | .high32 => (63, 32)
  | .full64 => (63, 0)
  | .whole => (w - 1, 0)
  | .kept hi lo => (hi, lo)

/-- The access width a row needs. -/
def RangeForm.need (w : Nat) : RangeForm → Nat
  | .low32 | .high32 | .narrowed => 32
  | .full64 => 64
  | .whole | .kept _ _ => w

/-- Bit i of the AArch32 register is bit lo+i (true), or bit i (false), of the AArch64 register (R304). -/
def RangeForm.shifted : RangeForm → Bool
  | .kept _ _ => false
  | _ => true

/-- The row of Tables K14-5 to K14-7 that applies to a name: the one it has, or for `RMR` the one `RMRSel` gives (R23).
`ok none`: the name has no row. -/
def rowOf (cfg : Config) (ctx : Ctx) (r : A32Name) : Except Refusal (Option (A64Name × RangeForm)) :=
  if r = .RMR then
    match rmrSel cfg ctx with
    | some .el1 => .ok (some (.RMR_EL1, .low32))
    | some .el3 => .ok (some (.RMR_EL3, .low32))
    | none => .error .rmrQualifier
  else .ok (views r).head?

/-- `locate(r, ctx, aw)` (R708). -/
def locate (cfg : Config) (ctx : Ctx) (r : A32Reg) (aw : AccessWidth) : Except Refusal Loc :=
  match rowOf cfg ctx r.name with
  | .error e => .error e
  | .ok none =>
    if r.name = .SPSR then .error .spsrIsNoRegister
    else if aw.bits ≠ w32 cfg r.name then .error .widthMismatch
    else .ok (.own (.s32 r) (w32 cfg r.name))
  | .ok (some (x, f)) =>
    if footnoteA cfg r.name ctx = false then .error .footnoteA
    else if r.name = .PMCCNTR ∧ aw = .w64 then .error .only32BitAccessMapped
    else if aw.bits ≠ f.need (w32 cfg r.name) then .error .widthMismatch
    else
      .ok (.view (.s64 { name := x, idx := r.idx }) (f.bits (w32 cfg r.name)).1 (f.bits (w32 cfg r.name)).2 f.shifted
        (f == .narrowed))

/-! ### The access operations -/

/-- `RD64(X)` (R706). -/
def rd64 (x : A64Reg) (s : State) : Result (Word × State) :=
  match accessStop s.cfg s.ctx (.a64 x) .read with
  | some e => .error e
  | none => if isUnknown s.cfg x = true then .ok (draw s, drawn s) else .ok (rdCell (.s64 x) (mask 63 0) s)

/-- `WR64(X, v)` (R707). -/
def wr64 (x : A64Reg) (v : Word) (s : State) : Result State :=
  match accessStop s.cfg s.ctx (.a64 x) .write with
  | some e => .error e
  | none =>
    if isUnknown s.cfg x = true then refuse .writeToUnknown else .ok (wrCell (.s64 x) (mask 63 0) v s)

/-- The read of R708 once the storage is known. A row that keeps positions draws the bits it does not name. -/
def readLoc (aw : AccessWidth) (s : State) (l : Loc) : AccessVal × State :=
  let a := rdCell l.cell (mask l.hi l.lo) s
  if l.shifted then (.ofWord aw (slice a.1 l.hi l.lo), a.2)
  else (.ofWord aw (mix (mask l.hi l.lo) a.1 (draw a.2)), drawn a.2)

/-- `RD32(r, aw)` (R708). -/
def rd32 (r : A32Reg) (aw : AccessWidth) (s : State) : Result (AccessVal × State) :=
  match accessStop s.cfg s.ctx (.a32 r) .read with
  | some e => .error e
  | none =>
    match locate s.cfg s.ctx r aw with
    | .error e => refuse e
    | .ok l => .ok (readLoc aw s l)

/-- The write of R709 once the storage is known. -/
def writeLoc (v : Word) (s : State) (l : Loc) : State :=
  let t := wrCell l.cell (mask l.hi l.lo) (v <<< l.shift) s
  if l.narrowed then forgetUpper l.cell t else t

/-- `WR32(r, aw, v)` (R709); the access width is the width of v. -/
def wr32 (r : A32Reg) (v : AccessVal) (s : State) : Result State :=
  match accessStop s.cfg s.ctx (.a32 r) .write with
  | some e => .error e
  | none =>
    match locate s.cfg s.ctx r v.width with
    | .error e => refuse e
    | .ok l => .ok (writeLoc v.zext s l)

/-! ### The context and the two resolutions -/

/-- `SETCTX(xs, el, ss)` (R710): changes the context, and forgets the operands when the Execution state changes;
it changes no register cell (R719 (h)). -/
def setCtx (c : Ctx) (s : State) : State :=
  if c.xs = s.ctx.xs then { s with ctx := c } else { forgetOperands s with ctx := c }

/-- An entry passes the filter of R704 in a Security state (log entry 25). -/
def keepsSecurity (ss : SecState) (e : RegRef) : Bool :=
  match e.qual, ss with
  | some .ns, .secure => false
  | some .s, .nonSecure => false
  | _, _ => true

/-- The unfiltered list of R704, "a model that wants only what the source says". -/
def resolveStatePrinted (g : GeneralName) (ctx : Ctx) : List RegRef := byState g ctx.xs

/-- `RESOLVE_STATE(g)` (R704): a function of the name and the context, which changes no state (R719 (g)). -/
def resolveState (g : GeneralName) (ctx : Ctx) : Result (List RegRef) :=
  match (resolveStatePrinted g ctx).filter (keepsSecurity ctx.ss) with
  | [] => refuse .noRegisterOfThisState
  | l => .ok l

/-- `RESOLVE_EL(f)` (R705): a function of the form and the context, which changes no state (R719 (g)). -/
def resolveEL (f : GeneralForm) (ctx : Ctx) : Result (List A64Name) :=
  match byEL f ctx.el with
  | [] => refuse .noRegisterAtThisLevel
  | l => .ok l

/-- `init` (10_state.md R25): the caller's start values of AArch64 cells, all bits settled. -/
def hostInit (init : List (A64Reg × Word)) (s : State) : State :=
  let changes := init.map (fun p => (Cell.s64 p.1, ({ val := p.2, known := BitVec.allOnes 64 } : Entry)))
  { s with regs := applyChanges s.cfg s.regs changes }

end Sys2Proof.Machine
end

