-- ==== Sys2Proof/Machine/Cp32.lean ====
section
/-! DEFINITION. Format CP32: `MRC` and `MCR` (45_access_operations.md R715, R716), over `RD32` and `WR32` with access
width 32. -/

namespace Sys2Proof.Machine

/-- `MRC p<coproc>, #<opc1>, Rt, c<CRn>, c<CRm>, #<opc2>` (R715). -/
def execMrc (sel : Sel32) (rt : BitVec 4) (s : State) : Host.Outcome State Fault Refusal :=
  if s.ctx.xs ≠ .aarch32 then .refused .otherExecutionState
  else if rt = 15 then .refused .transferToFlags
  else
    match selected s.cfg.sysRegSel32 sel with
    | none => .refused .selectorNotSupplied
    | some r =>
      match rd32 r .w32 s with
      | .error e => stopped e
      | .ok (v, t) => .next (writeR t rt (v.zext.extractLsb' 0 32))

/-- `MCR p<coproc>, #<opc1>, Rt, c<CRn>, c<CRm>, #<opc2>` (R716). -/
def execMcr (sel : Sel32) (rt : BitVec 4) (s : State) : Host.Outcome State Fault Refusal :=
  if s.ctx.xs ≠ .aarch32 then .refused .otherExecutionState
  else if rt = 15 then .refused .registerNotPermitted
  else
    match selected s.cfg.sysRegSel32 sel with
    | none => .refused .selectorNotSupplied
    | some r =>
      match readR s rt with
      | none => .refused .operandUnknown
      | some v =>
        match wr32 r (.b32 v) s with
        | .error e => stopped e
        | .ok t => .next t

end Sys2Proof.Machine
end

