-- ==== Sys2Proof/Machine/Cp64.lean ====
section
/-! DEFINITION. Format CP64: `MRRC` and `MCRR` (45_access_operations.md R717, R718), over `RD32` and `WR32` with access
width 64. -/

namespace Sys2Proof.Machine

/-- `MRRC p<coproc>, #<opc1>, Rt, Rt2, c<CRm>` (R717). -/
def execMrrc (sel : Sel32x64) (rt rt2 : BitVec 4) (s : State) : Host.Outcome State Fault Refusal :=
  if s.ctx.xs ≠ .aarch32 then .refused .otherExecutionState
  else if rt = 15 ∨ rt2 = 15 ∨ rt = rt2 then .refused .registerNotPermitted
  else
    match selected s.cfg.sysRegSel32x64 sel with
    | none => .refused .selectorNotSupplied
    | some r =>
      match rd32 r .w64 s with
      | .error e => stopped e
      | .ok (v, t) => .next (writePair t rt rt2 v.zext)

/-- `MCRR p<coproc>, #<opc1>, Rt, Rt2, c<CRm>` (R718). -/
def execMcrr (sel : Sel32x64) (rt rt2 : BitVec 4) (s : State) : Host.Outcome State Fault Refusal :=
  if s.ctx.xs ≠ .aarch32 then .refused .otherExecutionState
  else if rt = 15 ∨ rt2 = 15 then .refused .registerNotPermitted
  else
    match selected s.cfg.sysRegSel32x64 sel with
    | none => .refused .selectorNotSupplied
    | some r =>
      match readPair s rt rt2 with
      | none => .refused .operandUnknown
      | some v =>
        match wr32 r (.b64 v) s with
        | .error e => stopped e
        | .ok t => .next t

end Sys2Proof.Machine
end

