-- ==== Sys2Proof/Machine/SysReg64.lean ====
section
/-! DEFINITION. Format SYSREG64: `MRS` and `MSR` (45_access_operations.md R713, R714), over `RD64` and `WR64`. -/

namespace Sys2Proof.Machine

/-- `MRS Xt, <X>` (R713). -/
def execMrs (sel : Sel64) (rt : BitVec 5) (s : State) : Host.Outcome State Fault Refusal :=
  if s.ctx.xs ≠ .aarch64 then .refused .otherExecutionState
  else
    match selected s.cfg.sysRegSel64 sel with
    | none => .refused .selectorNotSupplied
    | some x =>
      match rd64 x s with
      | .error e => stopped e
      | .ok (v, t) => .next (writeX t rt v)

/-- `MSR <X>, Xt` (R714). -/
def execMsr (sel : Sel64) (rt : BitVec 5) (s : State) : Host.Outcome State Fault Refusal :=
  if s.ctx.xs ≠ .aarch64 then .refused .otherExecutionState
  else
    match selected s.cfg.sysRegSel64 sel with
    | none => .refused .selectorNotSupplied
    | some x =>
      match readX s rt with
      | none => .refused .operandUnknown
      | some v =>
        match wr64 x v s with
        | .error e => stopped e
        | .ok t => .next t

end Sys2Proof.Machine
end

