-- ==== Sys2Proof/Machine/Dispatch.lean ====
section
/-! DEFINITION. The meaning of each instruction: one arm per constructor of `Instr`. -/

namespace Sys2Proof.Machine

/-- The effect of an instruction (45_access_operations.md R711). -/
def exec (i : Instr) (s : State) : Host.Outcome State Fault Refusal :=
  match i with
  | .mrs sel rt => Sys2Proof.Machine.execMrs sel rt s
  | .msr sel rt => Sys2Proof.Machine.execMsr sel rt s
  | .mrc sel rt => Sys2Proof.Machine.execMrc sel rt s
  | .mcr sel rt => Sys2Proof.Machine.execMcr sel rt s
  | .mrrc sel rt rt2 => Sys2Proof.Machine.execMrrc sel rt rt2 s
  | .mcrr sel rt rt2 => Sys2Proof.Machine.execMcrr sel rt rt2 s

end Sys2Proof.Machine
end

