-- ==== Sys2Proof/Machine/HostOps.lean ====
section
/-! DEFINITION. What the caller's operations do to the state (45_access_operations.md R700, R701, R704 to R711): each runs
the operation of Machine/Ops.lean and keeps its output. -/

namespace Sys2Proof.Machine

/-- A state with the output of an operation. -/
def withOut (s : State) (o : Output) : State := { s with out := o }

/-- The outcome of an operation that leaves the state as it is (R704, R705; R719 (g)). -/
def answered {α : Type} (s : State) (f : α → Output) : Result α → Host.Outcome State Fault Refusal
  | .error e => stopped e
  | .ok a => .next (withOut s (f a))

/-- The outcome of a read. -/
def readDone {α : Type} (f : α → AccessVal) : Result (α × State) → Host.Outcome State Fault Refusal
  | .error e => stopped e
  | .ok (v, t) => .next (withOut t (.value (f v)))

/-- The outcome of an operation whose output is nothing. -/
def writeDone : Result State → Host.Outcome State Fault Refusal
  | .error e => stopped e
  | .ok t => .next (withOut t .nothing)

/-- `SETGPR(i, v)` in AArch64 state (R711); number 31 discards the value. -/
def setX (i : BitVec 5) (v : Word) (s : State) : Result State :=
  if s.ctx.xs ≠ .aarch64 then refuse .otherExecutionState else .ok (writeX s i v)

/-- `SETGPR(i, v)` in AArch32 state (R711); number 15 is no entry. -/
def setR (i : BitVec 4) (v : BitVec 32) (s : State) : Result State :=
  if s.ctx.xs ≠ .aarch32 then refuse .otherExecutionState
  else if i = 15 then refuse .noSuchOperand
  else .ok (writeR s i v)

/-- One operation of the caller. A name that is none of the spec's is refused (R702 step 1, R704, R705). -/
def runOp (o : HostOp) (s : State) : Host.Outcome State Fault Refusal :=
  match o with
  | .resolveState none => .refused .unknownGeneralName
  | .resolveState (some g) => answered s .refs (resolveState g s.ctx)
  | .resolveEL none => .refused .unknownGeneralForm
  | .resolveEL (some f) => answered s .names (resolveEL f s.ctx)
  | .rd64 none => .refused .unknownRegister
  | .rd64 (some x) => readDone .b64 (rd64 x s)
  | .wr64 none _ => .refused .unknownRegister
  | .wr64 (some x) v => writeDone (wr64 x v s)
  | .rd32 none _ => .refused .unknownRegister
  | .rd32 (some r) aw => readDone id (rd32 r aw s)
  | .wr32 none _ => .refused .unknownRegister
  | .wr32 (some r) v => writeDone (wr32 r v s)
  | .setCtx c => writeDone (.ok (setCtx c s))
  | .setX i v => writeDone (setX i v s)
  | .setR i v => writeDone (setR i v s)

end Sys2Proof.Machine
end

