-- ==== Sys2Proof/Machine/Fetch.lean ====
section
/-! DEFINITION. How a step finds what to run (45_access_operations.md R700, R711): there is no program counter and no
memory; the caller hands over a list of operations and instruction words, and a step runs the first. -/

namespace Sys2Proof.Machine

/-- The refusal of a word that does not decode (R77 to R80). -/
def decodeRefusal : DecodeError → Refusal
  | .noPattern => .noPattern
  | .condNotAlways => .condNotAlways
  | .transferToFlags => .transferToFlags
  | .notPermitted => .registerNotPermitted

/-- The state with an item taken off the caller's list and no output yet. -/
def taken (rest : List Pending) (s : State) : State := { s with pending := rest, out := .nothing }

/-- One instruction step (R711): the word is decoded in the Execution state of the context. -/
def runWord (w : InstrWord) (s : State) : Host.Outcome State Fault Refusal :=
  match decode s.ctx.xs w with
  | .error e => .refused (decodeRefusal e)
  | .ok i => exec i s

/-- One item of the caller's list. -/
def runPending (p : Pending) (s : State) : Host.Outcome State Fault Refusal :=
  match p with
  | .word w => runWord w s
  | .op o => runOp o s

/-- The next step of a run: the first item of the list, and the refusal `listExhausted` when the run has ended (R700). -/
def runNext (s : State) : Host.Outcome State Fault Refusal :=
  match s.pending with
  | [] => .refused .listExhausted
  | p :: rest => runPending p (taken rest s)

/-- The state with a word placed where the next step takes it, and the Execution state in which it decodes (log entries
7 and 8). The operand environment stays. -/
def placeWord (w : InstrWord) (s : State) : State :=
  let c := match wordExecState w with
    | some xs => { s.ctx with xs := xs }
    | none => s.ctx
  { s with pending := .word w :: s.pending, ctx := c }

end Sys2Proof.Machine
end

