-- ==== Sys2Proof/Machine/Step.lean ====
section
/-! DEFINITION. One step of the machine (45_access_operations.md R700). -/

namespace Sys2Proof.Machine

/-- One step: the first item of the caller's list, applied to the state. -/
def step (s : State) : Host.Outcome State Fault Refusal := runNext s

/-- The state with the instruction whose bits are w stored where the next step takes it. -/
def State.withFetchWord (s : State) (nbits w : Nat) : State := placeWord (tableWord nbits w) s

end Sys2Proof.Machine
end

