-- ==== Sys2Proof/Safety.lean ====
section
/-! DEFINITION. What claims about the machine speak of: the invariant of the state, the bits that have a settled value,
and states that agree on them (10_state.md R25, R38). -/

namespace Sys2Proof.Machine

/-- The invariant of a state: the register file is in its canonical form, and holds only cells of the state, none with a
bit beyond its width (R22, R24, R27, R38). -/
abbrev StateOk (s : State) : Prop := regsCanonical s.regs ∧ regsFit s.cfg s.regs

/-- The bits of a cell that have a settled value (R25). -/
def settled (s : State) (c : Cell) : Word := (cellGet s.regs c).known

/-- The stored bits of a cell (R22, R24). -/
def stored (s : State) (c : Cell) : Word := (cellGet s.regs c).val

/-- Two entries agree on the bits that have a settled value. -/
def sameEntry (e f : Entry) : Prop := e.known = f.known ∧ e.val &&& e.known = f.val &&& f.known

/-- Two states differ at most in the stored bits that have no settled value (R25). -/
def sameSettled (s t : State) : Prop :=
  s.cfg = t.cfg ∧ s.ctx = t.ctx ∧ s.x = t.x ∧ s.r = t.r ∧ s.draws = t.draws ∧ s.pending = t.pending ∧ s.out = t.out ∧
    ∀ c, sameEntry (cellGet s.regs c) (cellGet t.regs c)

/-- Two outcomes are the same but for stored bits that have no settled value. -/
def sameOutcome : Host.Outcome State Fault Refusal → Host.Outcome State Fault Refusal → Prop
  | .next s, .next t => sameSettled s t
  | .fault f, .fault g => f = g
  | .refused a, .refused b => a = b
  | _, _ => False

/-- Every cell behaves as plain storage (45_access_operations.md R703 `PLAIN`). -/
abbrev allPlain (cfg : Config) : Prop := cfg.openBehaviour = []

/-- The settled bits a write through a location leaves settled: all, or the low half on a narrowed row (R709). -/
def Loc.keep (l : Loc) : Word := if l.narrowed then mask 31 0 else BitVec.allOnes 64

/-- v shows, at its place (R304), every settled bit of the cell that the location names and the access width holds. -/
def showsBits (l : Loc) (aw : AccessWidth) (s : State) (v : Word) : Prop :=
  ∀ i, l.lo ≤ i → i ≤ l.hi → i - l.shift < aw.bits → (settled s l.cell).getLsbD i = true →
    v.getLsbD (i - l.shift) = (stored s l.cell).getLsbD i

/-- From s to t the bits m of the cell c took the bits of v and became settled (of the settled bits those in keep
stay), the cells that may share bits with c lost their settled bits, and every other cell is as it was (R703, R709,
R719 (d)). -/
def wrote (c : Cell) (m v keep : Word) (s t : State) : Prop :=
  stored t c = mix m v (stored s c) ∧ settled t c = (settled s c ||| m) &&& keep ∧
    ∀ d, d ≠ c →
      if mayShare s.cfg c d then stored t d = stored s d ∧ settled t d = 0
      else cellGet t.regs d = cellGet s.regs d

/-- From s to t the value v was written through a location (R709). -/
def wroteLoc (l : Loc) (v : Word) (s t : State) : Prop :=
  wrote l.cell (mask l.hi l.lo) (v <<< l.shift) l.keep s t

/-- t differs from s at most in the cells and in the number of values drawn. -/
abbrev onlyCells (s t : State) : Prop :=
  t.cfg = s.cfg ∧ t.ctx = s.ctx ∧ t.x = s.x ∧ t.r = s.r ∧ t.pending = s.pending ∧ t.out = s.out

/-- An access by the given name passes the checks of R702. -/
abbrev passes (s : State) (r : RegName) (k : AccessKind) : Prop := accessStop s.cfg s.ctx r k = none

/-- The state at another Exception level and in another Security state, the Execution state kept (R20). -/
def atLevel (el : EL) (ss : SecState) (s : State) : State := { s with ctx := { xs := s.ctx.xs, el := el, ss := ss } }

/-- The conditions, on the state and the operands alone, under which an instruction has its effect: the Execution state,
the register numbers, a selector the caller's map holds, settled source operands, the checks of R702, and for the AArch32
forms a location of the access width (R713 to R718). -/
def mayRun (s : State) : Instr → Prop
  | .mrs sel _ => s.ctx.xs = .aarch64 ∧
      ∃ x, selected s.cfg.sysRegSel64 sel = some x ∧ passes s (.a64 x) .read
  | .msr sel rt => s.ctx.xs = .aarch64 ∧ readX s rt ≠ none ∧
      ∃ x, selected s.cfg.sysRegSel64 sel = some x ∧ passes s (.a64 x) .write ∧ isUnknown s.cfg x = false
  | .mrc sel rt => s.ctx.xs = .aarch32 ∧ rt ≠ 15 ∧
      ∃ r l, selected s.cfg.sysRegSel32 sel = some r ∧ passes s (.a32 r) .read ∧ locate s.cfg s.ctx r .w32 = .ok l
  | .mcr sel rt => s.ctx.xs = .aarch32 ∧ rt ≠ 15 ∧ readR s rt ≠ none ∧
      ∃ r l, selected s.cfg.sysRegSel32 sel = some r ∧ passes s (.a32 r) .write ∧ locate s.cfg s.ctx r .w32 = .ok l
  | .mrrc sel rt rt2 => s.ctx.xs = .aarch32 ∧ rt ≠ 15 ∧ rt2 ≠ 15 ∧ rt ≠ rt2 ∧
      ∃ r l, selected s.cfg.sysRegSel32x64 sel = some r ∧ passes s (.a32 r) .read ∧
        locate s.cfg s.ctx r .w64 = .ok l
  | .mcrr sel rt rt2 => s.ctx.xs = .aarch32 ∧ rt ≠ 15 ∧ rt2 ≠ 15 ∧ readPair s rt rt2 ≠ none ∧
      ∃ r l, selected s.cfg.sysRegSel32x64 sel = some r ∧ passes s (.a32 r) .write ∧
        locate s.cfg s.ctx r .w64 = .ok l

end Sys2Proof.Machine
end

