-- ==== Sys2Proof/Certificates/Slice0/Obligations.lean ====
section
/-! DEFINITION. The statements about the machine, for the provers. -/

section Slice0Statements

open Sys2Proof Sys2Proof.Machine

/-! ### Encoding -/

/-- The nine worked encodings of 30_encoding.md R82, each decoded in its Execution state, and the register each selector
names in the table after R76 (setting T). -/
def Obligations.WorkedEncodings : Prop :=
  decode .aarch64 0xD538C000#32 = .ok (.mrs ⟨3, 0, 12, 0, 0⟩ 0) ∧
  decode .aarch64 0xD518C000#32 = .ok (.msr ⟨3, 0, 12, 0, 0⟩ 0) ∧
  decode .aarch64 0xD5186001#32 = .ok (.msr ⟨3, 0, 6, 0, 0⟩ 1) ∧
  decode .aarch64 0xD53C1102#32 = .ok (.mrs ⟨3, 4, 1, 1, 0⟩ 2) ∧
  decode .aarch32 0xEE1C0F10#32 = .ok (.mrc ⟨15, 0, 12, 0, 0⟩ 0) ∧
  decode .aarch32 0xEE0C0F10#32 = .ok (.mcr ⟨15, 0, 12, 0, 0⟩ 0) ∧
  decode .aarch32 0xEE161F50#32 = .ok (.mrc ⟨15, 0, 6, 0, 2⟩ 1) ∧
  decode .aarch32 0xEC510F02#32 = .ok (.mrrc ⟨15, 0, 2⟩ 0 1) ∧
  decode .aarch32 0xEC410F02#32 = .ok (.mcrr ⟨15, 0, 2⟩ 0 1) ∧
  selected Config.settingT.sysRegSel64 ⟨3, 0, 12, 0, 0⟩ = some A64Name.VBAR_EL1.reg ∧
  selected Config.settingT.sysRegSel64 ⟨3, 0, 6, 0, 0⟩ = some A64Name.FAR_EL1.reg ∧
  selected Config.settingT.sysRegSel64 ⟨3, 4, 1, 1, 0⟩ = some A64Name.HCR_EL2.reg ∧
  selected Config.settingT.sysRegSel32 ⟨15, 0, 12, 0, 0⟩ = some A32Name.VBAR.reg ∧
  selected Config.settingT.sysRegSel32 ⟨15, 0, 6, 0, 2⟩ = some A32Name.IFAR.reg ∧
  selected Config.settingT.sysRegSel32x64 ⟨15, 0, 2⟩ = some A32Name.TTBR0.reg

/-- Every well-formed instruction, every field at every value, decodes from its word to itself (R72 to R74). -/
def Obligations.DecodeOfEncode : Prop :=
  ∀ i : Instr, i.wellFormed = true → decode i.execState (encode i) = .ok i

/-- What the decoder reads is well-formed, belongs to the Execution state, and is the word's only reading: encoding it
gives back the word, so no bit of a word is dropped (R72 to R80). -/
def Obligations.EncodeOfDecode : Prop :=
  ∀ (xs : ExecState) (w : InstrWord) (i : Instr), decode xs w = .ok i →
    i.wellFormed = true ∧ i.execState = xs ∧ encode i = w

/-- The opcode map (R79, R80) with the restrictions of R77 and R78: which words decode, and to which instruction. -/
def Obligations.OpcodeMap : Prop :=
  ∀ w : InstrWord,
    ((∃ sel rt, decode .aarch64 w = .ok (.mrs sel rt)) ↔ w &&& 0xFFF00000#32 = 0xD5300000#32) ∧
    ((∃ sel rt, decode .aarch64 w = .ok (.msr sel rt)) ↔ w &&& 0xFFF00000#32 = 0xD5100000#32) ∧
    ((∃ sel rt, decode .aarch32 w = .ok (.mrc sel rt)) ↔
      w.extractLsb' 28 4 = 14 ∧ w &&& 0x0F100010#32 = 0x0E100010#32 ∧ w.extractLsb' 12 4 ≠ 15) ∧
    ((∃ sel rt, decode .aarch32 w = .ok (.mcr sel rt)) ↔
      w.extractLsb' 28 4 = 14 ∧ w &&& 0x0F100010#32 = 0x0E000010#32 ∧ w.extractLsb' 12 4 ≠ 15) ∧
    ((∃ sel rt rt2, decode .aarch32 w = .ok (.mrrc sel rt rt2)) ↔
      w.extractLsb' 28 4 = 14 ∧ w &&& 0x0FF00000#32 = 0x0C500000#32 ∧ w.extractLsb' 12 4 ≠ 15 ∧
        w.extractLsb' 16 4 ≠ 15 ∧ w.extractLsb' 12 4 ≠ w.extractLsb' 16 4) ∧
    ((∃ sel rt rt2, decode .aarch32 w = .ok (.mcrr sel rt rt2)) ↔
      w.extractLsb' 28 4 = 14 ∧ w &&& 0x0FF00000#32 = 0x0C400000#32 ∧ w.extractLsb' 12 4 ≠ 15 ∧
        w.extractLsb' 16 4 ≠ 15)

/-- A word that decodes in AArch64 state is refused in AArch32 state for its condition field, which is 1101
(R78, R80; vector E27). -/
def Obligations.NoWordDecodesInBothStates : Prop :=
  ∀ (w : InstrWord) (i : Instr), decode .aarch64 w = .ok i → decode .aarch32 w = .error .condNotAlways

/-- In AArch32 state a word whose condition field is not 1110 is refused, whatever its other bits (R78). -/
def Obligations.ConditionFieldRefused : Prop :=
  ∀ w : InstrWord, w.extractLsb' 28 4 ≠ 14 → decode .aarch32 w = .error .condNotAlways

/-! ### Stepping -/

/-- A step whose next item is a word that decodes runs the decoded instruction, which is well-formed and of the Execution
state of the context (R79, R80, R700, R711). That the caller's list is a field of the state is the model's choice (log
entry 7), and so is that a step starts with no output (log entry 19). -/
def Obligations.StepRunsDecodedWord : Prop :=
  ∀ (s : State) (w : InstrWord) (rest : List Pending) (i : Instr), s.pending = .word w :: rest →
    decode s.ctx.xs w = .ok i → i.wellFormed = true ∧ i.execState = s.ctx.xs ∧ step s = exec i (taken rest s)

/-- A step whose next item is a word that does not decode refuses it under the reason the decoder gives (R79). -/
def Obligations.StepRefusesOtherWords : Prop :=
  ∀ (s : State) (w : InstrWord) (rest : List Pending) (e : DecodeError), s.pending = .word w :: rest →
    decode s.ctx.xs w = .error e → step s = .refused (decodeRefusal e)

/-- A step whose next item is an operation runs it; a step with nothing left to run refuses, for the run has ended
(R700). The refusal's name is the model's (log entry 7). -/
def Obligations.StepRunsOperation : Prop :=
  (∀ (s : State) (o : HostOp) (rest : List Pending), s.pending = .op o :: rest → step s = runOp o (taken rest s)) ∧
  (∀ s : State, s.pending = [] → step s = .refused .listExhausted)

/-- A well-formed instruction whose word is placed for the next step is run by that step, in its own Execution state, on
a state that is otherwise the one it was placed in (log entries 7 and 8: the placing is the model's). -/
def Obligations.PlacedWordRuns : Prop :=
  ∀ (s : State) (i : Instr), i.wellFormed = true →
    step (s.withFetchWord 32 (encode i).toNat) =
      exec i { s with ctx := { s.ctx with xs := i.execState }, out := .nothing }

/-! ### Invariants of a run -/

/-- The state after reset meets the invariant and no bit of any cell has a settled value in it (R34, R850). -/
def Obligations.ResetState : Prop :=
  StateOk State.reset ∧ ∀ c : Cell, settled State.reset c = 0

/-- Every step keeps the invariant: the register file stays canonical and holds only cells of the state, none with a bit
beyond its width (R22, R24, R27, R38). -/
def Obligations.StepKeepsInvariant : Prop :=
  ∀ s t : State, StateOk s → step s = .next t → StateOk t

/-- The parameters never change, a step takes one item off the caller's list, and only `SETCTX` changes the context
(R20, R38, R700). -/
def Obligations.OnlySetCtxChangesContext : Prop :=
  ∀ s t : State, step s = .next t →
    t.cfg = s.cfg ∧ ∃ p, s.pending = p :: t.pending ∧ (t.ctx = s.ctx ∨ ∃ c, p = .op (.setCtx c) ∧ t.ctx = c)

/-- Bits without a settled value never show: two states that differ only in them step to the same stop, or to states
that again differ only in them (R25: "no claim may depend on it"). -/
def Obligations.UnsettledBitsNeverShow : Prop :=
  ∀ s t : State, StateOk s → StateOk t → allPlain s.cfg → sameSettled s t → sameOutcome (step s) (step t)

/-- The count of values drawn never falls in a step, and every read of a register raises it, by an instruction or by an
operation of the caller, so that no two reads are given the same draw. The spec asks for fresh values (R15, R25); the
counter that keeps them apart is the model's own (log entry 5). -/
def Obligations.DrawsAreFresh : Prop :=
  (∀ s t : State, step s = .next t → s.draws ≤ t.draws) ∧
  (∀ (s t : State) (sel : Sel64) (rt : BitVec 5), exec (.mrs sel rt) s = .next t → s.draws < t.draws) ∧
  (∀ (s t : State) (sel : Sel32) (rt : BitVec 4), exec (.mrc sel rt) s = .next t → s.draws < t.draws) ∧
  (∀ (s t : State) (sel : Sel32x64) (rt rt2 : BitVec 4), exec (.mrrc sel rt rt2) s = .next t → s.draws < t.draws) ∧
  (∀ (s t : State) (x : Option A64Reg), runOp (.rd64 x) s = .next t → s.draws < t.draws) ∧
  (∀ (s t : State) (r : Option A32Reg) (aw : AccessWidth), runOp (.rd32 r aw) s = .next t → s.draws < t.draws)

/-! ### When an instruction completes -/

/-- Each of the six instructions answers a next state exactly when its conditions hold, for every behaviour of the
register (R711, R713 to R718, R702, R708). -/
def Obligations.CompletesExactlyWhen : Prop :=
  ∀ (i : Instr) (s : State), (∃ t, exec i s = .next t) ↔ mayRun s i

/-- `MRS` and `MSR` complete, for every behaviour of the register, with the state `RD64` and `WR64` give; `MRS` of a
register of Table K14-7 that is UNKNOWN completes too, and puts a fresh draw in the operand (R713, R714, R706, R707,
R505). -/
def Obligations.SysregInstructionsRun : Prop :=
  (∀ (s : State) (sel : Sel64) (rt : BitVec 5) (x : A64Reg), s.ctx.xs = .aarch64 →
    selected s.cfg.sysRegSel64 sel = some x → passes s (.a64 x) .read → isUnknown s.cfg x = false →
    exec (.mrs sel rt) s =
      .next (writeX (rdCell (.s64 x) (mask 63 0) s).2 rt (rdCell (.s64 x) (mask 63 0) s).1)) ∧
  (∀ (s : State) (sel : Sel64) (rt : BitVec 5) (x : A64Reg), s.ctx.xs = .aarch64 →
    selected s.cfg.sysRegSel64 sel = some x → passes s (.a64 x) .read → isUnknown s.cfg x = true →
    exec (.mrs sel rt) s = .next (writeX (drawn s) rt (draw s))) ∧
  (∀ (s : State) (sel : Sel64) (rt : BitVec 5) (x : A64Reg) (v : Word), s.ctx.xs = .aarch64 →
    selected s.cfg.sysRegSel64 sel = some x → readX s rt = some v → passes s (.a64 x) .write →
    isUnknown s.cfg x = false → exec (.msr sel rt) s = .next (wrCell (.s64 x) (mask 63 0) v s))

/-- `MRC` and `MCR` complete, for every behaviour of the register and every form of row, with the state `RD32` and
`WR32` of access width 32 give (R715, R716, R708, R709). -/
def Obligations.Cp32InstructionsRun : Prop :=
  (∀ (s : State) (sel : Sel32) (rt : BitVec 4) (r : A32Reg) (l : Loc), s.ctx.xs = .aarch32 → rt ≠ 15 →
    selected s.cfg.sysRegSel32 sel = some r → passes s (.a32 r) .read → locate s.cfg s.ctx r .w32 = .ok l →
    exec (.mrc sel rt) s =
      .next (writeR (readLoc .w32 s l).2 rt ((readLoc .w32 s l).1.zext.extractLsb' 0 32))) ∧
  (∀ (s : State) (sel : Sel32) (rt : BitVec 4) (r : A32Reg) (l : Loc) (v : BitVec 32), s.ctx.xs = .aarch32 →
    rt ≠ 15 → selected s.cfg.sysRegSel32 sel = some r → readR s rt = some v → passes s (.a32 r) .write →
    locate s.cfg s.ctx r .w32 = .ok l → exec (.mcr sel rt) s = .next (writeLoc (v.setWidth 64) s l))

/-- `MRRC` and `MCRR` complete, for every behaviour of the register and every form of row, with the state `RD32` and
`WR32` of access width 64 give; the second number stands for bits [63:32] (R717, R718, R708, R709). -/
def Obligations.Cp64InstructionsRun : Prop :=
  (∀ (s : State) (sel : Sel32x64) (rt rt2 : BitVec 4) (r : A32Reg) (l : Loc), s.ctx.xs = .aarch32 → rt ≠ 15 →
    rt2 ≠ 15 → rt ≠ rt2 → selected s.cfg.sysRegSel32x64 sel = some r → passes s (.a32 r) .read →
    locate s.cfg s.ctx r .w64 = .ok l →
    exec (.mrrc sel rt rt2) s = .next (writePair (readLoc .w64 s l).2 rt rt2 (readLoc .w64 s l).1.zext)) ∧
  (∀ (s : State) (sel : Sel32x64) (rt rt2 : BitVec 4) (r : A32Reg) (l : Loc) (lo hi : BitVec 32),
    s.ctx.xs = .aarch32 → rt ≠ 15 → rt2 ≠ 15 → selected s.cfg.sysRegSel32x64 sel = some r →
    readR s rt = some lo → readR s rt2 = some hi → passes s (.a32 r) .write → locate s.cfg s.ctx r .w64 = .ok l →
    exec (.mcrr sel rt rt2) s = .next (writeLoc (hi ++ lo) s l))

/-! ### Results and frames of the six instructions under `PLAIN` -/

/-- `MRS` completes and gives the operand the settled bits of the register (zero register: nothing written); no cell, no
other operand, no part of the context, the parameters, the caller's list or the output changes (R713, R706, R703). -/
def Obligations.MrsReadsSettledBits : Prop :=
  ∀ (s : State) (sel : Sel64) (rt : BitVec 5) (x : A64Reg), s.ctx.xs = .aarch64 →
    selected s.cfg.sysRegSel64 sel = some x → passes s (.a64 x) .read → isUnknown s.cfg x = false →
    behaviour s.cfg (.s64 x) = none →
    ∃ (t : State) (v : Word), exec (.mrs sel rt) s = .next t ∧
      v &&& settled s (.s64 x) = stored s (.s64 x) &&& settled s (.s64 x) ∧
      readX t rt = some (if rt = 31 then 0 else v) ∧ (∀ u, u ≠ rt → readX t u = readX s u) ∧
      t.r = s.r ∧ t.regs = s.regs ∧ t.cfg = s.cfg ∧ t.ctx = s.ctx ∧ t.pending = s.pending ∧ t.out = s.out

/-- `MSR` completes and writes all 64 bits of the register, which become settled; the registers that may share bits with
it lose their settled bits, and every other register, every operand, the context, the parameters, the caller's list and
the output are as before (R714, R707, R703, R719 (d)). -/
def Obligations.MsrWritesRegister : Prop :=
  ∀ (s : State) (sel : Sel64) (rt : BitVec 5) (x : A64Reg) (v : Word), StateOk s → s.ctx.xs = .aarch64 →
    selected s.cfg.sysRegSel64 sel = some x → readX s rt = some v → passes s (.a64 x) .write →
    isUnknown s.cfg x = false → behaviour s.cfg (.s64 x) = none →
    ∃ t : State, exec (.msr sel rt) s = .next t ∧ stored t (.s64 x) = v ∧
      settled t (.s64 x) = BitVec.allOnes 64 ∧ wrote (.s64 x) (mask 63 0) v (BitVec.allOnes 64) s t ∧
      onlyCells s t ∧ t.draws = s.draws

/-- `MRC` completes for every form of row and gives the operand every settled bit the name shows, at its place; no cell,
no other operand and nothing else but the count of draws changes (R715, R708, R304). -/
def Obligations.MrcReadsSettledBits : Prop :=
  ∀ (s : State) (sel : Sel32) (rt : BitVec 4) (r : A32Reg) (l : Loc), s.ctx.xs = .aarch32 → rt ≠ 15 →
    selected s.cfg.sysRegSel32 sel = some r → passes s (.a32 r) .read → locate s.cfg s.ctx r .w32 = .ok l →
    behaviour s.cfg l.cell = none →
    ∃ (t : State) (v : BitVec 32), exec (.mrc sel rt) s = .next t ∧ readR t rt = some v ∧
      showsBits l .w32 s (v.setWidth 64) ∧ (∀ u, u ≠ rt → readR t u = readR s u) ∧
      t.x = s.x ∧ t.regs = s.regs ∧ t.cfg = s.cfg ∧ t.ctx = s.ctx ∧ t.pending = s.pending ∧ t.out = s.out

/-- `MCR` completes for every form of row and writes the bits the name shows and no other bit of the cell; frame as for
`MSR` (R716, R709, R305, R719 (b), (d)). -/
def Obligations.McrWritesNamedBits : Prop :=
  ∀ (s : State) (sel : Sel32) (rt : BitVec 4) (r : A32Reg) (l : Loc) (v : BitVec 32), StateOk s →
    s.ctx.xs = .aarch32 → rt ≠ 15 → selected s.cfg.sysRegSel32 sel = some r → readR s rt = some v →
    passes s (.a32 r) .write → locate s.cfg s.ctx r .w32 = .ok l → behaviour s.cfg l.cell = none →
    ∃ t : State, exec (.mcr sel rt) s = .next t ∧ wroteLoc l (v.setWidth 64) s t ∧ onlyCells s t ∧
      t.draws = s.draws

/-- `MRRC` completes and gives the first operand bits [31:0] and the second bits [63:32] of what the name shows; nothing
else but the count of draws changes (R717, R708). -/
def Obligations.MrrcReadsSettledBits : Prop :=
  ∀ (s : State) (sel : Sel32x64) (rt rt2 : BitVec 4) (r : A32Reg) (l : Loc), s.ctx.xs = .aarch32 → rt ≠ 15 →
    rt2 ≠ 15 → rt ≠ rt2 → selected s.cfg.sysRegSel32x64 sel = some r → passes s (.a32 r) .read →
    locate s.cfg s.ctx r .w64 = .ok l → behaviour s.cfg l.cell = none →
    ∃ (t : State) (lo hi : BitVec 32), exec (.mrrc sel rt rt2) s = .next t ∧ readR t rt = some lo ∧
      readR t rt2 = some hi ∧ showsBits l .w64 s (hi ++ lo) ∧
      (∀ u, u ≠ rt → u ≠ rt2 → readR t u = readR s u) ∧
      t.x = s.x ∧ t.regs = s.regs ∧ t.cfg = s.cfg ∧ t.ctx = s.ctx ∧ t.pending = s.pending ∧ t.out = s.out

/-- `MCRR` completes and writes the concatenation, the second operand in bits [63:32], to the bits the name shows; frame
as for `MSR` (R718, R709). -/
def Obligations.McrrWritesNamedBits : Prop :=
  ∀ (s : State) (sel : Sel32x64) (rt rt2 : BitVec 4) (r : A32Reg) (l : Loc) (lo hi : BitVec 32), StateOk s →
    s.ctx.xs = .aarch32 → rt ≠ 15 → rt2 ≠ 15 → selected s.cfg.sysRegSel32x64 sel = some r →
    readR s rt = some lo → readR s rt2 = some hi → passes s (.a32 r) .write → locate s.cfg s.ctx r .w64 = .ok l →
    behaviour s.cfg l.cell = none →
    ∃ t : State, exec (.mcrr sel rt rt2) s = .next t ∧ wroteLoc l (hi ++ lo) s t ∧ onlyCells s t ∧
      t.draws = s.draws

/-- An instruction that completes changes no parameter, no part of the context, no item of the caller's list, no output
and no operand but its destination (R711, R713 to R718; R20, R38). For a register whose behaviour is not `PLAIN` this is
the model's choice: R703 gives `rd` and `wr` the whole state, and the model lets them change register cells only (log
entry 6). -/
def Obligations.InstructionFrame : Prop :=
  ∀ (i : Instr) (s t : State), exec i s = .next t →
    t.cfg = s.cfg ∧ t.ctx = s.ctx ∧ t.pending = s.pending ∧ t.out = s.out ∧
    match i with
    | .mrs _ rt => t.r = s.r ∧ ∀ u, u ≠ rt → readX t u = readX s u
    | .msr _ _ => t.r = s.r ∧ t.x = s.x
    | .mrc _ rt => t.x = s.x ∧ ∀ u, u ≠ rt → readR t u = readR s u
    | .mcr _ _ => t.r = s.r ∧ t.x = s.x
    | .mrrc _ rt rt2 => t.x = s.x ∧ ∀ u, u ≠ rt → u ≠ rt2 → readR t u = readR s u
    | .mcrr _ _ _ => t.r = s.r ∧ t.x = s.x

/-- The Exception level and the Security state act through the parameters alone: where access rights, footnote `a` and
`RMRSel` do not tell them apart and every register is plain storage, an instruction does the same at every level and in
both Security states (R12, R603, R702). -/
def Obligations.LevelActsOnlyThroughParameters : Prop :=
  ∀ (i : Instr) (s : State) (el : EL) (ss : SecState), allPlain s.cfg →
    (∀ c d r k, accessible s.cfg c r k = accessible s.cfg d r k) →
    (∀ c d r, footnoteA s.cfg r c = footnoteA s.cfg r d) → (∀ c d, rmrSel s.cfg c = rmrSel s.cfg d) →
    (∀ t, exec i s = .next t → exec i (atLevel el ss s) = .next (atLevel el ss t)) ∧
    (∀ f, exec i s = .fault f → exec i (atLevel el ss s) = .fault f) ∧
    (∀ r, exec i s = .refused r → exec i (atLevel el ss s) = .refused r)

/-! ### Operands -/

/-- Number 31 of AArch64 state reads as zero and discards writes, in every state (R711). -/
def Obligations.ZeroRegister : Prop :=
  ∀ (s : State) (v : Word), readX s 31 = some 0 ∧ writeX s 31 v = s

/-- A read of an unknown operand used as a source refuses: `MSR` with a supplied selector whose operand is unknown
(R711, R714). -/
def Obligations.UnknownOperandRefused : Prop :=
  ∀ (s : State) (sel : Sel64) (rt : BitVec 5) (x : A64Reg), s.ctx.xs = .aarch64 →
    selected s.cfg.sysRegSel64 sel = some x → readX s rt = none → exec (.msr sel rt) s = .refused .operandUnknown

/-- The register numbers R77 does not permit are refused in AArch32 state, whatever the selector (R77, R715 to R718). -/
def Obligations.ForbiddenNumbersRefused : Prop :=
  ∀ s : State, s.ctx.xs = .aarch32 →
    (∀ sel, exec (.mrc sel 15) s = .refused .transferToFlags) ∧
    (∀ sel, exec (.mcr sel 15) s = .refused .registerNotPermitted) ∧
    (∀ sel rt rt2, rt = 15 ∨ rt2 = 15 ∨ rt = rt2 → exec (.mrrc sel rt rt2) s = .refused .registerNotPermitted) ∧
    (∀ sel rt rt2, rt = 15 ∨ rt2 = 15 → exec (.mcrr sel rt rt2) s = .refused .registerNotPermitted)

/-- A selector that the caller's map does not hold is refused by each of the six instructions (R79). -/
def Obligations.UnsuppliedSelectorRefused : Prop :=
  (∀ (s : State) (sel : Sel64) (rt : BitVec 5), s.ctx.xs = .aarch64 → selected s.cfg.sysRegSel64 sel = none →
    exec (.mrs sel rt) s = .refused .selectorNotSupplied ∧ exec (.msr sel rt) s = .refused .selectorNotSupplied) ∧
  (∀ (s : State) (sel : Sel32) (rt : BitVec 4), s.ctx.xs = .aarch32 → rt ≠ 15 →
    selected s.cfg.sysRegSel32 sel = none →
    exec (.mrc sel rt) s = .refused .selectorNotSupplied ∧ exec (.mcr sel rt) s = .refused .selectorNotSupplied) ∧
  (∀ (s : State) (sel : Sel32x64) (rt rt2 : BitVec 4), s.ctx.xs = .aarch32 → rt ≠ 15 → rt2 ≠ 15 → rt ≠ rt2 →
    selected s.cfg.sysRegSel32x64 sel = none →
    exec (.mrrc sel rt rt2) s = .refused .selectorNotSupplied ∧
    exec (.mcrr sel rt rt2) s = .refused .selectorNotSupplied)

/-- `SETGPR` sets one operand of the current Execution state and changes nothing else; in AArch64 state number 31
discards the value (R711). Its two forms, one for each Execution state, and what it does with a number that has no entry
are the model's choice (log entry 18), as is the output field, which is left empty (log entry 19). -/
def Obligations.SetGprSetsOneOperand : Prop :=
  (∀ (s : State) (i : BitVec 5) (v : Word), s.ctx.xs = .aarch64 →
    ∃ t, runOp (.setX i v) s = .next t ∧ readX t i = some (if i = 31 then 0 else v) ∧
      (∀ u, u ≠ i → readX t u = readX s u) ∧ t.r = s.r ∧ t.regs = s.regs ∧ t.ctx = s.ctx ∧ t.cfg = s.cfg ∧
      t.draws = s.draws ∧ t.pending = s.pending ∧ t.out = .nothing) ∧
  (∀ (s : State) (i : BitVec 4) (v : BitVec 32), s.ctx.xs = .aarch32 → i ≠ 15 →
    ∃ t, runOp (.setR i v) s = .next t ∧ readR t i = some v ∧
      (∀ u, u ≠ i → readR t u = readR s u) ∧ t.x = s.x ∧ t.regs = s.regs ∧ t.ctx = s.ctx ∧ t.cfg = s.cfg ∧
      t.draws = s.draws ∧ t.pending = s.pending ∧ t.out = .nothing)

/-! ### The one fault and the UNKNOWN registers -/

/-- An instruction faults exactly when it is `MRS`, or `MSR` with a known operand, of a register of Table K14-6 while EL1
cannot use AArch32; the access rights play no part (R800, R803, R501; vectors C23, F6). -/
def Obligations.FaultsExactlyWhen : Prop :=
  ∀ (i : Instr) (s : State),
    (∃ f, exec i s = .fault f) ↔
      s.ctx.xs = .aarch64 ∧ s.cfg.el1CanUseAArch32 = false ∧
        ∃ sel rt x, (i = .mrs sel rt ∨ (i = .msr sel rt ∧ readX s rt ≠ none)) ∧
          selected s.cfg.sysRegSel64 sel = some x ∧ inTableK14_6 x.name = true ∧ x.idx = 0

/-- With EL1 unable to use AArch32, `RD64` and `WR64` of each register of Table K14-6 fault in every context of AArch64
state, whatever the access rights (R501, R719 (e)); in AArch32 state the name is the other state's (R702 step 2, vector
C24). -/
def Obligations.TableK14_6Undefined : Prop :=
  ∀ (s : State) (n : A64Name) (v : Word), inTableK14_6 n = true → s.cfg.el1CanUseAArch32 = false →
    (s.ctx.xs = .aarch64 → rd64 n.reg s = .error raiseUndefined ∧ wr64 n.reg v s = .error raiseUndefined) ∧
    (s.ctx.xs = .aarch32 → rd64 n.reg s = refuse .otherExecutionState ∧ wr64 n.reg v s = refuse .otherExecutionState)

/-- With no level able to use AArch32, a read of any of the nineteen registers of Table K14-7 that passes the checks
returns a fresh draw, does not fault, and neither reads nor changes a cell (R505). -/
def Obligations.TableK14_7ReadsUnknown : Prop :=
  ∀ (s : State) (n : A64Name), inTableK14_7 n = true → s.cfg.anyELCanUseAArch32 = false →
    passes s (.a64 n.reg) .read → rd64 n.reg s = .ok (draw s, drawn s)

/-- With no level able to use AArch32, a write of a register of Table K14-7 that passes the checks is refused (R707). -/
def Obligations.TableK14_7WriteRefused : Prop :=
  ∀ (s : State) (n : A64Name) (v : Word), inTableK14_7 n = true → s.cfg.anyELCanUseAArch32 = false →
    passes s (.a64 n.reg) .write → wr64 n.reg v s = refuse .writeToUnknown

/-! ### The checks of an access -/

/-- An access goes on exactly when none of the seven checks of R702 applies. -/
def Obligations.PassesExactlyWhen : Prop :=
  ∀ (s : State) (r : RegName) (k : AccessKind),
    passes s r k ↔
      indexOk s.cfg r = true ∧ nameState r = s.ctx.xs ∧ isUndefined s.cfg r = false ∧
        (nameState r = .aarch32 → s.cfg.anyELCanUseAArch32 = true) ∧ notImplemented s.cfg r = false ∧
        inDTRSet r = false ∧ accessible s.cfg s.ctx r k = true

/-- A register whose index is outside the range of its family is an unknown register, before every other check, for every
name, every operation and both kinds of access (R702 step 1); and what the range of every name is: 0 to 30 for the event
counters, 0 to 15 for the activity monitors, below `NumBRP` and `NumWRP` for the debug registers (R9; vector C21). That
a name without a placeholder is written with the index 0 is the model's (log entry 20). -/
def Obligations.IndexOutOfRangeRefused : Prop :=
  (∀ (s : State) (r : RegName) (k : AccessKind), indexOk s.cfg r = false →
    accessStop s.cfg s.ctx r k = some (.refusal .unknownRegister)) ∧
  (∀ (s : State) (x : A64Reg) (v : Word), indexOk s.cfg (.a64 x) = false →
    rd64 x s = refuse .unknownRegister ∧ wr64 x v s = refuse .unknownRegister) ∧
  (∀ (s : State) (r : A32Reg) (aw : AccessWidth) (v : AccessVal), indexOk s.cfg (.a32 r) = false →
    rd32 r aw s = refuse .unknownRegister ∧ wr32 r v s = refuse .unknownRegister) ∧
  (∀ (cfg : Config) (x : A64Name) (n : Nat), indexOk cfg (.a64 ⟨x, n⟩) = decide (n <
    if x ∈ [A64Name.PMEVCNTRn_EL0, .PMEVTYPERn_EL0] then 31
    else if x ∈ [A64Name.AMEVCNTR0n_EL0, .AMEVCNTR1n_EL0, .AMEVTYPER0n_EL0, .AMEVTYPER1n_EL0] then 16
    else if x ∈ [A64Name.DBGBCRn_EL1, .DBGBVRn_EL1] then cfg.numBRP
    else if x ∈ [A64Name.DBGWCRn_EL1, .DBGWVRn_EL1] then cfg.numWRP
    else 1)) ∧
  (∀ (cfg : Config) (r : A32Name) (n : Nat), indexOk cfg (.a32 ⟨r, n⟩) = decide (n <
    if r ∈ [A32Name.PMEVCNTRn, .PMEVTYPERn] then 31
    else if r ∈ [A32Name.AMEVCNTR0n, .AMEVCNTR1n, .AMEVTYPER0n, .AMEVTYPER1n] then 16
    else if r ∈ [A32Name.DBGBCRn, .DBGBVRn, .DBGBXVRn] then cfg.numBRP
    else if r ∈ [A32Name.DBGWCRn, .DBGWVRn] then cfg.numWRP
    else 1))

/-- A name of the other Execution state is refused, whatever the register, once its index is in range (R702 step 2). -/
def Obligations.OtherStateNameRefused : Prop :=
  (∀ (s : State) (x : A64Reg) (v : Word), s.ctx.xs = .aarch32 → indexOk s.cfg (.a64 x) = true →
    rd64 x s = refuse .otherExecutionState ∧ wr64 x v s = refuse .otherExecutionState) ∧
  (∀ (s : State) (r : A32Reg) (aw : AccessWidth) (v : AccessVal), s.ctx.xs = .aarch64 →
    indexOk s.cfg (.a32 r) = true →
    rd32 r aw s = refuse .otherExecutionState ∧ wr32 r v s = refuse .otherExecutionState)

/-- An access that the access rights forbid and no earlier check stops is refused, for every name of either Execution
state, read and write (R12, R702 step 7). -/
def Obligations.DeniedAccessRefused : Prop :=
  (∀ (s : State) (r : RegName) (k : AccessKind), indexOk s.cfg r = true → nameState r = s.ctx.xs →
    isUndefined s.cfg r = false → (nameState r = .aarch32 → s.cfg.anyELCanUseAArch32 = true) →
    notImplemented s.cfg r = false → inDTRSet r = false → accessible s.cfg s.ctx r k = false →
    accessStop s.cfg s.ctx r k = some (.refusal .accessNotPermitted)) ∧
  (∀ (s : State) (x : A64Reg) (v : Word), s.ctx.xs = .aarch64 → indexOk s.cfg (.a64 x) = true →
    isUndefined s.cfg (.a64 x) = false → inDTRSet64 x.name = false →
    (accessible s.cfg s.ctx (.a64 x) .read = false → rd64 x s = refuse .accessNotPermitted) ∧
    (accessible s.cfg s.ctx (.a64 x) .write = false → wr64 x v s = refuse .accessNotPermitted)) ∧
  (∀ (s : State) (r : A32Reg) (aw : AccessWidth) (v : AccessVal), s.ctx.xs = .aarch32 →
    indexOk s.cfg (.a32 r) = true → s.cfg.anyELCanUseAArch32 = true → notImplemented s.cfg (.a32 r) = false →
    inDTRSet32 r.name = false →
    (accessible s.cfg s.ctx (.a32 r) .read = false → rd32 r aw s = refuse .accessNotPermitted) ∧
    (accessible s.cfg s.ctx (.a32 r) .write = false → wr32 r v s = refuse .accessNotPermitted))

/-- The debug data transfer registers are refused under both kinds of name (R27, R702 step 6). -/
def Obligations.DataTransferRegistersRefused : Prop :=
  (∀ (s : State) (n : A64Name) (v : Word), inDTRSet64 n = true → s.ctx.xs = .aarch64 →
    rd64 n.reg s = refuse .dataTransferRegister ∧ wr64 n.reg v s = refuse .dataTransferRegister) ∧
  (∀ (s : State) (n : A32Name) (aw : AccessWidth) (v : AccessVal), inDTRSet32 n = true → s.ctx.xs = .aarch32 →
    s.cfg.anyELCanUseAArch32 = true →
    rd32 n.reg aw s = refuse .dataTransferRegister ∧ wr32 n.reg v s = refuse .dataTransferRegister)

/-! ### Where an AArch32 register is stored -/

/-- A read of a register through a name of width 32 or 64 needs that access width: a row printed `[31:0]` or `[63:32]` is
not reached with access width 64, nor a row printed `[63:0]` with 32 (R708, R712). -/
def Obligations.WidthMustMatch : Prop :=
  ∀ (cfg : Config) (ctx : Ctx) (r : A32Reg) (x : A64Name) (f : RangeForm), views r.name = [(x, f)] →
    r.name ≠ .PMCCNTR → footnoteA cfg r.name ctx = true →
    (f = .low32 ∨ f = .high32 → locate cfg ctx r .w64 = .error .widthMismatch) ∧
    (f = .full64 → locate cfg ctx r .w32 = .error .widthMismatch)

/-- `PMCCNTR` is reached with access width 32 as bits [31:0] of `PMCCNTR_EL0`, and not with 64 (R712; vector C11). -/
def Obligations.PmccntrOnlyByMrcMcr : Prop :=
  ∀ (cfg : Config) (ctx : Ctx),
    locate cfg ctx A32Name.PMCCNTR.reg .w32 = .ok (.view (.s64 A64Name.PMCCNTR_EL0.reg) 31 0 true false) ∧
    locate cfg ctx A32Name.PMCCNTR.reg .w64 = .error .only32BitAccessMapped

/-- `RMR` is where `RMRSel` says, and refused where it says nothing (R23, R708; vector C19). -/
def Obligations.RmrFollowsRmrSel : Prop :=
  ∀ (cfg : Config) (ctx : Ctx),
    locate cfg ctx A32Name.RMR.reg .w32 =
      match rmrSel cfg ctx with
      | some .el1 => .ok (.view (.s64 A64Name.RMR_EL1.reg) 31 0 true false)
      | some .el3 => .ok (.view (.s64 A64Name.RMR_EL3.reg) 31 0 true false)
      | none => .error .rmrQualifier

/-- `HTTBR` and `DBGDSCRint` keep the positions of their bits: [47:1] of `TTBR0_EL2` and [30:29] of `MDCCSR_EL0`, over
the width the caller gives them (R304, R343, R420). -/
def Obligations.KeptPositionRows : Prop :=
  ∀ (cfg : Config) (ctx : Ctx),
    (w32 cfg .HTTBR = 64 →
      locate cfg ctx A32Name.HTTBR.reg .w64 = .ok (.view (.s64 A64Name.TTBR0_EL2.reg) 47 1 false false)) ∧
    (w32 cfg .DBGDSCRint = 32 →
      locate cfg ctx A32Name.DBGDSCRint.reg .w32 = .ok (.view (.s64 A64Name.MDCCSR_EL0.reg) 30 29 false false))

/-- After a successful write of one of the three narrowed rows the upper half of its AArch64 register has no settled bit,
whatever the behaviour of the register (R709, R383, R385, R388; for a behaviour that is not `PLAIN`, log entry 29). -/
def Obligations.NarrowedRowsForgetUpperHalf : Prop :=
  ∀ (s t : State) (r : A32Name) (x : A64Name) (v : AccessVal), (x, .narrowed) ∈ views r →
    wr32 r.reg v s = .ok t → (settled t (.s64 x.reg)).extractLsb' 32 32 = 0

/-- Both names of an "or" row are views of the same bits: `PRRR` and `MAIR0` of `MAIR_EL1[31:0]`, `NMRR` and `MAIR1` of
`MAIR_EL1[63:32]`; wherever the rows of both apply, the two names have the same storage (R307). -/
def Obligations.OrRowsAreSynonyms : Prop :=
  views .PRRR = [(.MAIR_EL1, .low32)] ∧ views .MAIR0 = [(.MAIR_EL1, .low32)] ∧
  views .NMRR = [(.MAIR_EL1, .high32)] ∧ views .MAIR1 = [(.MAIR_EL1, .high32)] ∧
  ∀ (cfg : Config) (ctx : Ctx) (aw : AccessWidth),
    (footnoteA cfg .PRRR ctx = footnoteA cfg .MAIR0 ctx →
      locate cfg ctx A32Name.PRRR.reg aw = locate cfg ctx A32Name.MAIR0.reg aw) ∧
    (footnoteA cfg .NMRR ctx = footnoteA cfg .MAIR1 ctx →
      locate cfg ctx A32Name.NMRR.reg aw = locate cfg ctx A32Name.MAIR1.reg aw)

/-- The inventory: 260 AArch64 names and 192 AArch32 names, each name in its list exactly once; 168 AArch32 names are
views of bits of 148 AArch64 registers, 23 have a cell of their own, and `SPSR` is neither (R21, R24, R35). -/
def Obligations.InventoryCounts : Prop :=
  A64Name.all.length = 260 ∧ A64Name.all.Nodup ∧ (∀ x : A64Name, x ∈ A64Name.all) ∧
  A32Name.all.length = 192 ∧ A32Name.all.Nodup ∧ (∀ r : A32Name, r ∈ A32Name.all) ∧
  (A32Name.all.filter (fun r => !(views r).isEmpty)).length = 168 ∧
  (A32Name.all.filter (fun r => cellExists Config.settingT (.s32 r.reg))).length = 23 ∧
  (A64Name.all.filter (fun x => A32Name.all.any (fun r => (views r).any (fun p => p.1 = x)))).length = 148 ∧
  views .SPSR = [] ∧ cellExists Config.settingT (.s32 A32Name.SPSR.reg) = false

/-! ### The alias law -/

/-- Alias read (R719 (a)): in any state, for a name that shows bits [hi:lo] of X, a read by the name and a read of X, each
in its Execution state, agree on every bit that is settled. -/
def Obligations.AliasRead : Prop :=
  ∀ (s : State) (r : A32Reg) (x : A64Reg) (aw : AccessWidth) (l : Loc) (c : Ctx) (p : AccessVal × State)
    (q : Word × State), behaviour s.cfg l.cell = none → locate s.cfg s.ctx r aw = .ok l → l.cell = .s64 x →
    l.shifted = true → rd32 r aw s = .ok p → rd64 x (setCtx c s) = .ok q →
    ∀ i, l.lo ≤ i → i ≤ l.hi → (settled s l.cell).getLsbD i = true →
      p.1.zext.getLsbD (i - l.lo) = q.1.getLsbD i

/-- The alias law over `rd` and `wr` (R703, R719 (a)): for every behaviour, a read by a name that shows bits [hi:lo] of a
cell is those bits of the cell's `rd` with that mask and has its effect and no other, and a write by the name is the
cell's `wr` with that mask (on a row that is not narrowed). Where `rd` gives the bits of the range alike under the name's
mask and under the full one, the read by the name and the read of X, each in its Execution state, agree on them. -/
def Obligations.ViewsShareBehaviour : Prop :=
  ∀ (s : State) (r : A32Reg) (aw : AccessWidth) (l : Loc), locate s.cfg s.ctx r aw = .ok l → l.shifted = true →
    (∀ p, rd32 r aw s = .ok p → p.2 = (rdCell l.cell (mask l.hi l.lo) s).2 ∧
      ∀ i, l.lo ≤ i → i ≤ l.hi →
        p.1.zext.getLsbD (i - l.lo) = (rdCell l.cell (mask l.hi l.lo) s).1.getLsbD i) ∧
    (∀ v t, v.width = aw → l.narrowed = false → wr32 r v s = .ok t →
      t = wrCell l.cell (mask l.hi l.lo) (v.zext <<< l.lo) s) ∧
    (∀ x c p q, l.cell = .s64 x → rd32 r aw s = .ok p → rd64 x (setCtx c s) = .ok q →
      (∀ i, l.lo ≤ i → i ≤ l.hi → (rdCell l.cell (mask l.hi l.lo) s).1.getLsbD i =
        (rdCell l.cell (mask 63 0) (setCtx c s)).1.getLsbD i) →
      ∀ i, l.lo ≤ i → i ≤ l.hi → p.1.zext.getLsbD (i - l.lo) = q.1.getLsbD i)

/-- Alias write (R719 (b)): after a write by an AArch32 name that shows bits [hi:lo] of X, X reads the written value in
those bits, in any context of AArch64 state. -/
def Obligations.AliasWrite : Prop :=
  ∀ (s t : State) (r : A32Reg) (x : A64Reg) (v : AccessVal) (l : Loc) (c : Ctx) (q : Word × State), StateOk s →
    behaviour s.cfg l.cell = none → locate s.cfg s.ctx r v.width = .ok l → l.cell = .s64 x → l.shifted = true →
    wr32 r v s = .ok t → rd64 x (setCtx c t) = .ok q → slice q.1 l.hi l.lo = v.zext

/-- The other direction (R719 (c)): after a write of X, every AArch32 name that shows bits of X reads them at their
places, in any context of AArch32 state. -/
def Obligations.WriteSeenThroughViews : Prop :=
  ∀ (s t : State) (r : A32Reg) (x : A64Reg) (v : Word) (aw : AccessWidth) (l : Loc) (c : Ctx)
    (p : AccessVal × State), StateOk s → behaviour s.cfg (.s64 x) = none → wr64 x v s = .ok t →
    locate s.cfg c r aw = .ok l → l.cell = .s64 x → rd32 r aw (setCtx c t) = .ok p →
    ∀ i, l.lo ≤ i → i ≤ l.hi → i - l.shift < aw.bits → p.1.zext.getLsbD (i - l.shift) = v.getLsbD i

/-- Split registers (R719 (c)): writing the two halves of X by their two names, in either order, leaves the concatenation
in X, all of it settled. -/
def Obligations.SplitRegistersJoin : Prop :=
  ∀ (s t u : State) (a b : A32Name) (x : A64Name) (n : Nat) (v1 v2 : BitVec 32), StateOk s → allPlain s.cfg →
    (x, .low32) ∈ views a → (x, .high32) ∈ views b →
    (wr32 ⟨a, n⟩ (.b32 v1) s = .ok t ∧ wr32 ⟨b, n⟩ (.b32 v2) t = .ok u) ∨
      (wr32 ⟨b, n⟩ (.b32 v2) s = .ok t ∧ wr32 ⟨a, n⟩ (.b32 v1) t = .ok u) →
    stored u (.s64 ⟨x, n⟩) = v2 ++ v1 ∧ settled u (.s64 ⟨x, n⟩) = BitVec.allOnes 64

/-- `MayShare` is symmetric and relates no cell to itself, whatever the caller adds; it holds between any two of the four
cells of footnote b, and between each register of R24 and the AArch64 registers of its row (R26). -/
def Obligations.MayShareLeastRelation : Prop :=
  (∀ (cfg : Config) (c d : Cell), mayShare cfg c d = mayShare cfg d c) ∧
  (∀ (cfg : Config) (c : Cell), mayShare cfg c c = false) ∧
  (∀ (cfg : Config) (m n : A64Name), carriesFootnoteB m = true → carriesFootnoteB n = true → m ≠ n →
    mayShare cfg (.s64 m.reg) (.s64 n.reg) = true) ∧
  (∀ (cfg : Config) (r : A32Name) (x : A64Name) (n : Nat), x ∈ rowMates r →
    mayShare cfg (.s32 ⟨r, n⟩) (.s64 ⟨x, n⟩) = true)

/-! ### The access operations as the caller issues them -/

/-- `RD64`, `WR64`, `RD32` and `WR32`, issued as operations, complete where the access passes its checks, with the value
read, or nothing, as the output (R701, R706 to R709). -/
def Obligations.AccessOperationsRun : Prop :=
  (∀ (s : State) (x : A64Reg), passes s (.a64 x) .read → isUnknown s.cfg x = false →
    runOp (.rd64 (some x)) s = .next (withOut (rdCell (.s64 x) (mask 63 0) s).2
      (.value (.b64 (rdCell (.s64 x) (mask 63 0) s).1)))) ∧
  (∀ (s : State) (x : A64Reg) (v : Word), passes s (.a64 x) .write → isUnknown s.cfg x = false →
    runOp (.wr64 (some x) v) s = .next (withOut (wrCell (.s64 x) (mask 63 0) v s) .nothing)) ∧
  (∀ (s : State) (r : A32Reg) (aw : AccessWidth) (l : Loc), passes s (.a32 r) .read →
    locate s.cfg s.ctx r aw = .ok l →
    runOp (.rd32 (some r) aw) s = .next (withOut (readLoc aw s l).2 (.value (readLoc aw s l).1))) ∧
  (∀ (s : State) (r : A32Reg) (v : AccessVal) (l : Loc), passes s (.a32 r) .write →
    locate s.cfg s.ctx r v.width = .ok l →
    runOp (.wr32 (some r) v) s = .next (withOut (writeLoc v.zext s l) .nothing))

/-- `SETCTX` sets the context to the one given, any of the sixteen; when the Execution state changes every operand
becomes unknown, else none changes; no cell, no parameter, no draw and no item of the caller's list changes (R710). -/
def Obligations.SetCtxChangesOnlyContext : Prop :=
  ∀ (s : State) (c : Ctx), ∃ t, runOp (.setCtx c) s = .next t ∧ t.ctx = c ∧ t.out = .nothing ∧
    (c.xs ≠ s.ctx.xs → (∀ u, u ≠ 31 → readX t u = none) ∧ ∀ u, readR t u = none) ∧
    (c.xs = s.ctx.xs → t.x = s.x ∧ t.r = s.r) ∧
    t.regs = s.regs ∧ t.cfg = s.cfg ∧ t.draws = s.draws ∧ t.pending = s.pending

/-! ### The two resolutions -/

/-- The resolutions are pure: they change the output and nothing else, and their answer depends on the context alone
(R719 (g)). -/
def Obligations.ResolutionIsPure : Prop :=
  (∀ (g : GeneralName) (s : State),
    (∃ l, resolveState g s.ctx = .ok l ∧ runOp (.resolveState (some g)) s = .next (withOut s (.refs l))) ∨
    (resolveState g s.ctx = refuse .noRegisterOfThisState ∧
      runOp (.resolveState (some g)) s = .refused .noRegisterOfThisState)) ∧
  (∀ (f : GeneralForm) (s : State),
    (∃ l, resolveEL f s.ctx = .ok l ∧ runOp (.resolveEL (some f)) s = .next (withOut s (.names l))) ∨
    (resolveEL f s.ctx = refuse .noRegisterAtThisLevel ∧
      runOp (.resolveEL (some f)) s = .refused .noRegisterAtThisLevel))

/-- Only three rows have an empty cell, `CNTPS_CTL`, `CNTPS_CVAL` and `CNTPS_TVAL`, all in the AArch32 column
(R101). -/
def Obligations.OnlyThreeEmptyCells : Prop :=
  ∀ (g : GeneralName) (xs : ExecState),
    byState g xs = [] ↔ xs = .aarch32 ∧ (g = .CNTPS_CTL ∨ g = .CNTPS_CVAL ∨ g = .CNTPS_TVAL)

/-- `RESOLVE_STATE` answers for every general name and context but those three in AArch32 state, where it refuses: no row
is emptied by the filter on the Security state (R704, R101). -/
def Obligations.ResolveStateRefusesExactlyThree : Prop :=
  ∀ (g : GeneralName) (c : Ctx),
    resolveState g c = refuse .noRegisterOfThisState ↔
      c.xs = .aarch32 ∧ (g = .CNTPS_CTL ∨ g = .CNTPS_CVAL ∨ g = .CNTPS_TVAL)

/-- `RESOLVE_EL` returns the cell of the row in the column of the level, and refuses an empty cell (R602, R705). -/
def Obligations.ResolveELAnswersByLevel : Prop :=
  ∀ (f : GeneralForm) (c : Ctx),
    (byEL f c.el = [] → resolveEL f c = refuse .noRegisterAtThisLevel) ∧
    (byEL f c.el ≠ [] → resolveEL f c = .ok (byEL f c.el))

end Slice0Statements
end

