-- ==== Sys2Proof/Laws/Bits.lean ====
section
/-! SUPPORT. Lemmas about masks, slices and mixed words. -/

namespace Sys2Proof.Machine

theorem mask_getLsbD (hi lo i : Nat) (h : lo ≤ hi) :
    (mask hi lo).getLsbD i = (decide (i < 64) && decide (lo ≤ i) && decide (i ≤ hi)) := by
  unfold mask
  simp only [BitVec.getLsbD_shiftLeft, BitVec.getLsbD_setWidth, BitVec.getLsbD_allOnes]
  rw [Bool.eq_iff_iff]
  simp
  omega

@[simp] theorem mask_full : mask 63 0 = BitVec.allOnes 64 := by decide

@[simp] theorem mix_allOnes (v u : Word) : mix (BitVec.allOnes 64) v u = v := by
  ext i h
  simp [mix, -BitVec.reduceAllOnes]

theorem mix_getLsbD (m v u : Word) (i : Nat) :
    (mix m v u).getLsbD i = if m.getLsbD i then v.getLsbD i else (decide (i < 64) && u.getLsbD i) := by
  by_cases h : m.getLsbD i <;> simp [mix, h, Bool.and_comm]

/-- A mixed word has the first value's bits where the mask is set. -/
theorem mix_and (m v u : Word) : mix m v u &&& m = v &&& m := by
  ext i h
  simp only [mix, BitVec.getElem_and, BitVec.getElem_or, BitVec.getElem_not]
  cases m[i] <;> simp

/-- A mixed word has the second value's bits where the mask is not set. -/
theorem mix_and_not (m v u : Word) : mix m v u &&& ~~~m = u &&& ~~~m := by
  ext i h
  simp only [mix, BitVec.getElem_and, BitVec.getElem_or, BitVec.getElem_not]
  cases m[i] <;> simp

theorem slice_getLsbD (v : Word) (hi lo i : Nat) (h : lo ≤ hi) (h2 : hi < 64) :
    (slice v hi lo).getLsbD i = (decide (i + lo ≤ hi) && v.getLsbD (lo + i)) := by
  simp only [slice, BitVec.getLsbD_ushiftRight, BitVec.getLsbD_and, mask_getLsbD _ _ _ h]
  rw [Bool.eq_iff_iff]
  simp
  constructor
  · rintro ⟨h1, h3⟩; exact ⟨by omega, h1⟩
  · rintro ⟨h1, h3⟩; exact ⟨h3, by omega⟩

/-- A slice sees only the bits of its range. -/
theorem slice_congr (v w : Word) (hi lo : Nat) (h : v &&& mask hi lo = w &&& mask hi lo) :
    slice v hi lo = slice w hi lo := by simp [slice, h]

@[simp] theorem zext_b64 (v : Word) : (AccessVal.b64 v).zext = v := rfl

@[simp] theorem zext_b32 (v : BitVec 32) : (AccessVal.b32 v).zext = v.setWidth 64 := rfl

@[simp] theorem width_ofWord (aw : AccessWidth) (v : Word) : (AccessVal.ofWord aw v).width = aw := by
  cases aw <;> rfl

/-- The two halves of a word, put together again. -/
@[simp] theorem halves_append (v : Word) : v.extractLsb' 32 32 ++ v.extractLsb' 0 32 = v := by
  apply BitVec.eq_of_getLsbD_eq
  intro i hi
  simp only [BitVec.getLsbD_append, BitVec.getLsbD_extractLsb']
  split
  · next h => simp [h]
  · next h =>
    have h1 : i - 32 < 32 := by omega
    have h2 : 32 + (i - 32) = i := by omega
    simp [h1, h2]

end Sys2Proof.Machine
end

