-- ==== Sys2Proof/Laws/Encode.lean ====
section
/-! SUPPORT. The fields of an encoded word: its fixed bits, and each field read back (30_encoding.md R72 to R74). -/

namespace Sys2Proof

/-- The fixed bits of a SYSREG64 word. -/
theorem encodeSysreg64_fixed (l : BitVec 1) (sel : Sel64) (rt : BitVec 5) :
    encodeSysreg64 l sel rt &&& 0xFFF00000#32 = 0b1101010100#10 ++ l ++ 1#1 ++ 0#20 := by
  obtain ⟨op0, op1, crn, crm, op2⟩ := sel
  apply BitVec.eq_of_getLsbD_eq
  intro i hi
  simp only [encodeSysreg64, BitVec.getLsbD_and, BitVec.getLsbD_append]
  interval_cases i <;> simp

/-- The fixed bits of a CP32 word. -/
theorem encodeCp32_fixed (l : BitVec 1) (sel : Sel32) (rt : BitVec 4) :
    encodeCp32 l sel rt &&& 0x0F100010#32 = 0b00001110000#11 ++ l ++ 0#15 ++ 1#1 ++ 0#4 := by
  obtain ⟨coproc, opc1, crn, crm, opc2⟩ := sel
  apply BitVec.eq_of_getLsbD_eq
  intro i hi
  simp only [encodeCp32, BitVec.getLsbD_and, BitVec.getLsbD_append]
  interval_cases i <;> simp

/-- The fixed bits of a CP64 word. -/
theorem encodeCp64_fixed (l : BitVec 1) (sel : Sel32x64) (rt rt2 : BitVec 4) :
    encodeCp64 l sel rt rt2 &&& 0x0FF00000#32 = 0b00001100010#11 ++ l ++ 0#20 := by
  obtain ⟨coproc, opc1, crm⟩ := sel
  apply BitVec.eq_of_getLsbD_eq
  intro i hi
  simp only [encodeCp64, BitVec.getLsbD_and, BitVec.getLsbD_append]
  interval_cases i <;> simp

/-- The register number of a SYSREG64 word. -/
theorem encodeSysreg64_rt (l : BitVec 1) (sel : Sel64) (rt : BitVec 5) :
    (encodeSysreg64 l sel rt).extractLsb' 0 5 = rt := by
  apply BitVec.eq_of_getLsbD_eq
  intro i hi
  simp only [encodeSysreg64, BitVec.getLsbD_extractLsb', BitVec.getLsbD_append]
  interval_cases i <;> simp

/-- The selector of a SYSREG64 word; op0 has its upper bit set (R72). -/
theorem encodeSysreg64_sel (l : BitVec 1) (sel : Sel64) (rt : BitVec 5) (h : sel.wellFormed = true) :
    sel64Of (encodeSysreg64 l sel rt) = sel := by
  obtain ⟨op0, op1, crn, crm, op2⟩ := sel
  simp only [Sel64.wellFormed] at h
  simp only [sel64Of, Sel64.mk.injEq]
  refine ⟨?_, ?_, ?_, ?_, ?_⟩ <;>
  · apply BitVec.eq_of_getLsbD_eq
    intro i hi
    simp only [encodeSysreg64, BitVec.getLsbD_extractLsb', BitVec.getLsbD_append]
    interval_cases i <;> simp_all

/-- The register number and the condition field of a CP32 word. -/
theorem encodeCp32_fields (l : BitVec 1) (sel : Sel32) (rt : BitVec 4) :
    (encodeCp32 l sel rt).extractLsb' 12 4 = rt ∧ (encodeCp32 l sel rt).extractLsb' 28 4 = 14 := by
  refine ⟨?_, ?_⟩ <;>
  · apply BitVec.eq_of_getLsbD_eq
    intro i hi
    simp only [encodeCp32, BitVec.getLsbD_extractLsb', BitVec.getLsbD_append]
    interval_cases i <;> simp

/-- The selector of a CP32 word. -/
theorem encodeCp32_sel (l : BitVec 1) (sel : Sel32) (rt : BitVec 4) : sel32Of (encodeCp32 l sel rt) = sel := by
  obtain ⟨coproc, opc1, crn, crm, opc2⟩ := sel
  simp only [sel32Of, Sel32.mk.injEq]
  refine ⟨?_, ?_, ?_, ?_, ?_⟩ <;>
  · apply BitVec.eq_of_getLsbD_eq
    intro i hi
    simp only [encodeCp32, BitVec.getLsbD_extractLsb', BitVec.getLsbD_append]
    interval_cases i <;> simp

/-- The register numbers and the condition field of a CP64 word. -/
theorem encodeCp64_fields (l : BitVec 1) (sel : Sel32x64) (rt rt2 : BitVec 4) :
    (encodeCp64 l sel rt rt2).extractLsb' 12 4 = rt ∧ (encodeCp64 l sel rt rt2).extractLsb' 16 4 = rt2 ∧
      (encodeCp64 l sel rt rt2).extractLsb' 28 4 = 14 := by
  refine ⟨?_, ?_, ?_⟩ <;>
  · apply BitVec.eq_of_getLsbD_eq
    intro i hi
    simp only [encodeCp64, BitVec.getLsbD_extractLsb', BitVec.getLsbD_append]
    interval_cases i <;> simp

/-- The selector of a CP64 word. -/
theorem encodeCp64_sel (l : BitVec 1) (sel : Sel32x64) (rt rt2 : BitVec 4) :
    sel32x64Of (encodeCp64 l sel rt rt2) = sel := by
  obtain ⟨coproc, opc1, crm⟩ := sel
  simp only [sel32x64Of, Sel32x64.mk.injEq]
  refine ⟨?_, ?_, ?_⟩ <;>
  · apply BitVec.eq_of_getLsbD_eq
    intro i hi
    simp only [encodeCp64, BitVec.getLsbD_extractLsb', BitVec.getLsbD_append]
    interval_cases i <;> simp

end Sys2Proof
end

