-- ==== Sys2Proof/Laws/RegFile.lean ====
section
/-! SUPPORT. The laws of the register file: a cell read after it is set, every other cell left alone, and the canonical
form kept by every operation. -/

namespace Sys2Proof.Machine

/-! ### Keys -/

theorem a64Name_ctorIdx_lt (n : A64Name) : n.ctorIdx < 260 := by cases n <;> decide

theorem a32Name_ctorIdx_lt (n : A32Name) : n.ctorIdx < 192 := by cases n <;> decide

theorem a64Name_ctorIdx_inj {m n : A64Name} (h : m.ctorIdx = n.ctorIdx) : m = n := by
  rw [← A64Name.ofNat_ctorIdx m, h, A64Name.ofNat_ctorIdx]

theorem a32Name_ctorIdx_inj {m n : A32Name} (h : m.ctorIdx = n.ctorIdx) : m = n := by
  rw [← A32Name.ofNat_ctorIdx m, h, A32Name.ofNat_ctorIdx]

/-- Different cells have different keys. -/
theorem key_inj {c d : Cell} (h : c.key = d.key) : c = d := by
  match c, d, h with
  | .s64 ⟨m, i⟩, .s64 ⟨n, j⟩, h =>
    have := a64Name_ctorIdx_lt m; have := a64Name_ctorIdx_lt n
    simp only [Cell.key] at h
    obtain rfl : m = n := a64Name_ctorIdx_inj (by omega)
    obtain rfl : i = j := by omega
    rfl
  | .s32 ⟨m, i⟩, .s32 ⟨n, j⟩, h =>
    have := a32Name_ctorIdx_lt m; have := a32Name_ctorIdx_lt n
    simp only [Cell.key] at h
    obtain rfl : m = n := a32Name_ctorIdx_inj (by omega)
    obtain rfl : i = j := by omega
    rfl
  | .s64 ⟨m, i⟩, .s32 ⟨n, j⟩, h =>
    have := a64Name_ctorIdx_lt m; have := a32Name_ctorIdx_lt n
    simp only [Cell.key] at h
    omega
  | .s32 ⟨m, i⟩, .s64 ⟨n, j⟩, h =>
    have := a32Name_ctorIdx_lt m; have := a64Name_ctorIdx_lt n
    simp only [Cell.key] at h
    omega

/-! ### Reading after an update -/

@[simp] theorem cellGet_nil (c : Cell) : cellGet [] c = .blank := rfl

theorem cellGet_erase_self (rf : RegFile) (c : Cell) : cellGet (cellErase rf c) c = .blank := by
  induction rf with
  | nil => rfl
  | cons p rest ih =>
    obtain ⟨d, e⟩ := p
    by_cases h : d = c
    · simpa [cellErase, h] using ih
    · simpa [cellErase, h, cellGet] using ih

theorem cellGet_erase_ne (rf : RegFile) {c d : Cell} (h : d ≠ c) : cellGet (cellErase rf c) d = cellGet rf d := by
  induction rf with
  | nil => rfl
  | cons p rest ih =>
    obtain ⟨a, e⟩ := p
    by_cases ha : a = c
    · subst ha
      simpa [cellErase, cellGet, Ne.symm h] using ih
    · by_cases hd : a = d
      · subst hd; simp [cellErase, ha, cellGet]
      · simpa [cellErase, ha, cellGet, hd] using ih

theorem cellGet_insert_self (rf : RegFile) (c : Cell) (e : Entry) (h : ∀ p ∈ rf, p.1 ≠ c) :
    cellGet (cellInsert c e rf) c = e := by
  induction rf with
  | nil => simp [cellInsert, cellGet]
  | cons p rest ih =>
    obtain ⟨d, f⟩ := p
    have hd : d ≠ c := h (d, f) (by simp)
    simp only [cellInsert]
    split
    · simp [cellGet]
    · simpa [cellGet, hd] using ih (fun p hp => h p (by simp [hp]))

theorem cellGet_insert_ne (rf : RegFile) {c d : Cell} (e : Entry) (h : d ≠ c) :
    cellGet (cellInsert c e rf) d = cellGet rf d := by
  induction rf with
  | nil => simp [cellInsert, cellGet, Ne.symm h]
  | cons p rest ih =>
    obtain ⟨a, f⟩ := p
    simp only [cellInsert]
    split
    · simp [cellGet, Ne.symm h]
    · by_cases ha : a = d
      · simp [cellGet, ha]
      · simpa [cellGet, ha] using ih

/-- Read after write. -/
@[simp] theorem cellGet_set_self (rf : RegFile) (c : Cell) (e : Entry) : cellGet (cellSet rf c e) c = e := by
  unfold cellSet
  split
  · next h => rw [cellGet_erase_self, h]
  · exact cellGet_insert_self _ _ _ (by simp [cellErase])

/-- A write leaves every other cell alone. -/
@[simp] theorem cellGet_set_ne (rf : RegFile) {c d : Cell} (e : Entry) (h : d ≠ c) :
    cellGet (cellSet rf c e) d = cellGet rf d := by
  unfold cellSet
  split
  · exact cellGet_erase_ne rf h
  · rw [cellGet_insert_ne _ _ h, cellGet_erase_ne _ h]

theorem cellGet_set (rf : RegFile) (c d : Cell) (e : Entry) :
    cellGet (cellSet rf c e) d = if d = c then e else cellGet rf d := by
  by_cases h : d = c
  · subst h; simp
  · simp [h]

theorem forgetPartners_cons (cfg : Config) (c a : Cell) (e : Entry) (rest : RegFile) :
    forgetPartners cfg c ((a, e) :: rest) =
      (if (if mayShare cfg c a then forgetEntry e else e) = .blank then forgetPartners cfg c rest
        else (a, if mayShare cfg c a then forgetEntry e else e) :: forgetPartners cfg c rest) := by
  by_cases hm : mayShare cfg c a = true
  · by_cases hf : forgetEntry e = .blank <;> simp [forgetPartners, hm, hf]
  · by_cases hf : e = .blank <;> simp [forgetPartners, hm, hf]

theorem cellGet_of_not_mem {rf : RegFile} {c : Cell} (h : ∀ p ∈ rf, p.1 ≠ c) : cellGet rf c = .blank := by
  induction rf with
  | nil => rfl
  | cons q r ih =>
    obtain ⟨b, f⟩ := q
    have : b ≠ c := h (b, f) (by simp)
    simpa [cellGet, this] using ih (fun q hq => h q (by simp [hq]))

/-- What forgetting the partners of a cell does to any cell: its settled bits are cleared if it is a partner. -/
theorem cellGet_forgetPartners (cfg : Config) (c d : Cell) (rf : RegFile) (h : regsCanonical rf) :
    cellGet (forgetPartners cfg c rf) d = if mayShare cfg c d then forgetEntry (cellGet rf d) else cellGet rf d := by
  obtain ⟨hp, -⟩ := h
  have hb : (if mayShare cfg c d then forgetEntry Entry.blank else Entry.blank) = Entry.blank := by
    split <;> rfl
  induction rf with
  | nil => simpa [forgetPartners] using hb.symm
  | cons p rest ih =>
    obtain ⟨a, e⟩ := p
    rw [List.pairwise_cons] at hp
    have ih := ih hp.2
    rw [forgetPartners_cons]
    by_cases hd : a = d
    · subst hd
      have hrest : cellGet rest a = .blank :=
        cellGet_of_not_mem (fun q hq he => by have := hp.1 q hq; simp [he] at this)
      rw [hrest, hb] at ih
      have hget : cellGet ((a, e) :: rest) a = e := by simp [cellGet]
      rw [hget]
      generalize (if mayShare cfg c a = true then forgetEntry e else e) = e'
      by_cases he : e' = .blank <;> simp [he, cellGet, ih]
    · have hget : cellGet ((a, e) :: rest) d = cellGet rest d := by simp [cellGet, hd]
      rw [hget]
      generalize (if mayShare cfg c a = true then forgetEntry e else e) = e'
      by_cases he : e' = .blank <;> simp [he, cellGet, hd, ih]

/-! ### The canonical form -/

theorem mem_erase {rf : RegFile} {c : Cell} {p : Cell × Entry} (h : p ∈ cellErase rf c) : p ∈ rf ∧ p.1 ≠ c := by
  simpa [cellErase] using h

theorem mem_insert {rf : RegFile} {c : Cell} {e : Entry} {p : Cell × Entry} (h : p ∈ cellInsert c e rf) :
    p = (c, e) ∨ p ∈ rf := by
  induction rf with
  | nil => simpa [cellInsert] using h
  | cons q rest ih =>
    obtain ⟨d, f⟩ := q
    simp only [cellInsert] at h
    split at h
    · simpa using h
    · rcases List.mem_cons.1 h with h | h
      · simp [h]
      · rcases ih h with h | h <;> simp [h]

theorem mem_set {rf : RegFile} {c : Cell} {e : Entry} {p : Cell × Entry} (h : p ∈ cellSet rf c e) :
    (p = (c, e) ∧ e ≠ .blank) ∨ (p ∈ rf ∧ p.1 ≠ c) := by
  unfold cellSet at h
  split at h
  · exact .inr (mem_erase h)
  · next hb =>
    rcases mem_insert h with h | h
    · exact .inl ⟨h, hb⟩
    · exact .inr (mem_erase h)

theorem pairwise_insert {rf : RegFile} {c : Cell} {e : Entry}
    (hp : rf.Pairwise (fun p q => p.1.key < q.1.key)) (hc : ∀ p ∈ rf, p.1 ≠ c) :
    (cellInsert c e rf).Pairwise (fun p q => p.1.key < q.1.key) := by
  induction rf with
  | nil => simp [cellInsert]
  | cons q rest ih =>
    obtain ⟨d, f⟩ := q
    rw [List.pairwise_cons] at hp
    simp only [cellInsert]
    split
    · next hlt =>
      refine List.pairwise_cons.2 ⟨fun p h => ?_, List.pairwise_cons.2 hp⟩
      rcases List.mem_cons.1 h with h | h
      · simpa [h] using hlt
      · exact Nat.lt_trans hlt (hp.1 p h)
    · next hge =>
      have hne : d ≠ c := hc (d, f) (by simp)
      have hlt : d.key < c.key := by
        rcases Nat.lt_or_eq_of_le (Nat.le_of_not_lt hge) with h | h
        · exact h
        · exact absurd (key_inj h) hne
      refine List.pairwise_cons.2 ⟨fun p h => ?_, ih hp.2 (fun p h => hc p (by simp [h]))⟩
      rcases mem_insert h with h | h
      · simpa [h] using hlt
      · exact hp.1 p h

/-- Setting a cell keeps the canonical form. -/
theorem regsCanonical_set {rf : RegFile} (c : Cell) (e : Entry) (h : regsCanonical rf) :
    regsCanonical (cellSet rf c e) := by
  refine ⟨?_, fun p hp => ?_⟩
  · have he : (cellErase rf c).Pairwise (fun p q => p.1.key < q.1.key) := h.1.filter _
    unfold cellSet
    split
    · exact he
    · exact pairwise_insert he (fun p hp => (mem_erase hp).2)
  · rcases mem_set hp with ⟨rfl, hb⟩ | ⟨hm, -⟩
    · exact hb
    · exact h.2 p hm

theorem mem_forgetPartners {cfg : Config} {c : Cell} {rf : RegFile} {p : Cell × Entry}
    (h : p ∈ forgetPartners cfg c rf) : p.2 ≠ .blank ∧ ∃ e, (p.1, e) ∈ rf ∧ (p.2 = e ∨ p.2 = forgetEntry e) := by
  simp only [forgetPartners, List.mem_filter, List.mem_map] at h
  obtain ⟨⟨q, hq, rfl⟩, hb⟩ := h
  refine ⟨by simpa using hb, q.2, ?_, ?_⟩
  · split <;> exact hq
  · split <;> simp

/-- Forgetting partners keeps the canonical form. -/
theorem regsCanonical_forgetPartners {rf : RegFile} (cfg : Config) (c : Cell) (h : regsCanonical rf) :
    regsCanonical (forgetPartners cfg c rf) := by
  refine ⟨?_, fun p hp => (mem_forgetPartners hp).1⟩
  refine List.Pairwise.filter _ (List.pairwise_map.2 (h.1.imp ?_))
  intro a b hab
  split <;> split <;> exact hab

/-- The changes of an open behaviour keep the canonical form. -/
theorem regsCanonical_applyChanges {rf : RegFile} (cfg : Config) (l : List (Cell × Entry)) (h : regsCanonical rf) :
    regsCanonical (applyChanges cfg rf l) := by
  unfold applyChanges
  induction l generalizing rf with
  | nil => exact h
  | cons p rest ih =>
    rw [List.foldl_cons]
    apply ih
    split
    · exact regsCanonical_set _ _ h
    · exact h

/-! ### Cells of the state only, within their widths -/

theorem cutEntry_cut (cfg : Config) (c : Cell) (e : Entry) : cutEntry cfg c (cutEntry cfg c e) = cutEntry cfg c e := by
  simp [cutEntry, BitVec.and_assoc]

theorem cutEntry_blank (cfg : Config) (c : Cell) : cutEntry cfg c .blank = .blank := by
  simp [cutEntry, Entry.blank]

theorem cutEntry_forget {cfg : Config} {c : Cell} {e : Entry} (h : cutEntry cfg c e = e) :
    cutEntry cfg c (forgetEntry e) = forgetEntry e := by
  have := congrArg Entry.val h
  simp only [cutEntry] at this
  simp [cutEntry, forgetEntry, this]

theorem regsFit_get {cfg : Config} {rf : RegFile} (h : regsFit cfg rf) (c : Cell) :
    cutEntry cfg c (cellGet rf c) = cellGet rf c := by
  induction rf with
  | nil => exact cutEntry_blank cfg c
  | cons p rest ih =>
    obtain ⟨d, e⟩ := p
    simp only [cellGet]
    split
    · next hd => subst hd; exact (h (d, e) (by simp)).2
    · exact ih (fun q hq => h q (by simp [hq]))

theorem regsFit_set {cfg : Config} {rf : RegFile} {c : Cell} {e : Entry} (h : regsFit cfg rf)
    (hc : cellExists cfg c = true) (he : cutEntry cfg c e = e) : regsFit cfg (cellSet rf c e) := by
  intro p hp
  rcases mem_set hp with ⟨rfl, -⟩ | ⟨hm, -⟩
  · exact ⟨hc, he⟩
  · exact h p hm

theorem regsFit_forgetPartners {cfg : Config} {rf : RegFile} (c : Cell) (h : regsFit cfg rf) :
    regsFit cfg (forgetPartners cfg c rf) := by
  intro p hp
  obtain ⟨-, e, hm, he⟩ := mem_forgetPartners hp
  obtain ⟨h1, h2⟩ := h _ hm
  refine ⟨h1, ?_⟩
  rcases he with he | he
  · rw [he]; exact h2
  · rw [he]; exact cutEntry_forget h2

theorem regsFit_applyChanges {cfg : Config} {rf : RegFile} (l : List (Cell × Entry)) (h : regsFit cfg rf) :
    regsFit cfg (applyChanges cfg rf l) := by
  unfold applyChanges
  induction l generalizing rf with
  | nil => exact h
  | cons p rest ih =>
    rw [List.foldl_cons]
    apply ih
    split
    · next hc => exact regsFit_set h hc (cutEntry_cut cfg p.1 p.2)
    · exact h

end Sys2Proof.Machine
end

