-- ==== Sys2Proof/Laws/State.lean ====
section
/-! SUPPORT. One lemma per field and update of the state, so that no later proof unfolds a record update. -/

namespace Sys2Proof.Machine

/-! ### `writeX` -/

@[simp] theorem writeX_cfg (s : State) (t : BitVec 5) (v : Word) : (writeX s t v).cfg = s.cfg := by
  unfold writeX; split <;> rfl

@[simp] theorem writeX_ctx (s : State) (t : BitVec 5) (v : Word) : (writeX s t v).ctx = s.ctx := by
  unfold writeX; split <;> rfl

@[simp] theorem writeX_regs (s : State) (t : BitVec 5) (v : Word) : (writeX s t v).regs = s.regs := by
  unfold writeX; split <;> rfl

@[simp] theorem writeX_r (s : State) (t : BitVec 5) (v : Word) : (writeX s t v).r = s.r := by
  unfold writeX; split <;> rfl

@[simp] theorem writeX_draws (s : State) (t : BitVec 5) (v : Word) : (writeX s t v).draws = s.draws := by
  unfold writeX; split <;> rfl

@[simp] theorem writeX_pending (s : State) (t : BitVec 5) (v : Word) : (writeX s t v).pending = s.pending := by
  unfold writeX; split <;> rfl

@[simp] theorem writeX_out (s : State) (t : BitVec 5) (v : Word) : (writeX s t v).out = s.out := by
  unfold writeX; split <;> rfl

/-! ### `writeR` -/

@[simp] theorem writeR_cfg (s : State) (t : BitVec 4) (v : BitVec 32) : (writeR s t v).cfg = s.cfg := by
  unfold writeR; split <;> rfl

@[simp] theorem writeR_ctx (s : State) (t : BitVec 4) (v : BitVec 32) : (writeR s t v).ctx = s.ctx := by
  unfold writeR; split <;> rfl

@[simp] theorem writeR_regs (s : State) (t : BitVec 4) (v : BitVec 32) : (writeR s t v).regs = s.regs := by
  unfold writeR; split <;> rfl

@[simp] theorem writeR_x (s : State) (t : BitVec 4) (v : BitVec 32) : (writeR s t v).x = s.x := by
  unfold writeR; split <;> rfl

@[simp] theorem writeR_draws (s : State) (t : BitVec 4) (v : BitVec 32) : (writeR s t v).draws = s.draws := by
  unfold writeR; split <;> rfl

@[simp] theorem writeR_pending (s : State) (t : BitVec 4) (v : BitVec 32) : (writeR s t v).pending = s.pending := by
  unfold writeR; split <;> rfl

@[simp] theorem writeR_out (s : State) (t : BitVec 4) (v : BitVec 32) : (writeR s t v).out = s.out := by
  unfold writeR; split <;> rfl

/-! ### `writePair` -/

@[simp] theorem writePair_cfg (s : State) (t t2 : BitVec 4) (v : Word) : (writePair s t t2 v).cfg = s.cfg := by
  simp [writePair]

@[simp] theorem writePair_ctx (s : State) (t t2 : BitVec 4) (v : Word) : (writePair s t t2 v).ctx = s.ctx := by
  simp [writePair]

@[simp] theorem writePair_regs (s : State) (t t2 : BitVec 4) (v : Word) : (writePair s t t2 v).regs = s.regs := by
  simp [writePair]

@[simp] theorem writePair_x (s : State) (t t2 : BitVec 4) (v : Word) : (writePair s t t2 v).x = s.x := by
  simp [writePair]

@[simp] theorem writePair_draws (s : State) (t t2 : BitVec 4) (v : Word) : (writePair s t t2 v).draws = s.draws := by
  simp [writePair]

@[simp] theorem writePair_pending (s : State) (t t2 : BitVec 4) (v : Word) : (writePair s t t2 v).pending = s.pending := by
  simp [writePair]

@[simp] theorem writePair_out (s : State) (t t2 : BitVec 4) (v : Word) : (writePair s t t2 v).out = s.out := by
  simp [writePair]

/-! ### `forgetOperands` -/

@[simp] theorem forgetOperands_cfg (s : State) : (forgetOperands s).cfg = s.cfg := rfl

@[simp] theorem forgetOperands_ctx (s : State) : (forgetOperands s).ctx = s.ctx := rfl

@[simp] theorem forgetOperands_regs (s : State) : (forgetOperands s).regs = s.regs := rfl

@[simp] theorem forgetOperands_draws (s : State) : (forgetOperands s).draws = s.draws := rfl

@[simp] theorem forgetOperands_pending (s : State) : (forgetOperands s).pending = s.pending := rfl

@[simp] theorem forgetOperands_out (s : State) : (forgetOperands s).out = s.out := rfl

@[simp] theorem forgetOperands_x (s : State) : (forgetOperands s).x = Vector.replicate 31 none := rfl

@[simp] theorem forgetOperands_r (s : State) : (forgetOperands s).r = Vector.replicate 15 none := rfl

/-! ### `drawn` -/

@[simp] theorem drawn_cfg (s : State) : (drawn s).cfg = s.cfg := rfl

@[simp] theorem drawn_ctx (s : State) : (drawn s).ctx = s.ctx := rfl

@[simp] theorem drawn_regs (s : State) : (drawn s).regs = s.regs := rfl

@[simp] theorem drawn_x (s : State) : (drawn s).x = s.x := rfl

@[simp] theorem drawn_r (s : State) : (drawn s).r = s.r := rfl

@[simp] theorem drawn_pending (s : State) : (drawn s).pending = s.pending := rfl

@[simp] theorem drawn_out (s : State) : (drawn s).out = s.out := rfl

@[simp] theorem drawn_draws (s : State) : (drawn s).draws = s.draws + 1 := rfl

/-! ### `withOut` -/

@[simp] theorem withOut_cfg (s : State) (o : Output) : (withOut s o).cfg = s.cfg := rfl

@[simp] theorem withOut_ctx (s : State) (o : Output) : (withOut s o).ctx = s.ctx := rfl

@[simp] theorem withOut_regs (s : State) (o : Output) : (withOut s o).regs = s.regs := rfl

@[simp] theorem withOut_x (s : State) (o : Output) : (withOut s o).x = s.x := rfl

@[simp] theorem withOut_r (s : State) (o : Output) : (withOut s o).r = s.r := rfl

@[simp] theorem withOut_draws (s : State) (o : Output) : (withOut s o).draws = s.draws := rfl

@[simp] theorem withOut_pending (s : State) (o : Output) : (withOut s o).pending = s.pending := rfl

@[simp] theorem withOut_out (s : State) (o : Output) : (withOut s o).out = o := rfl

/-! ### `taken` -/

@[simp] theorem taken_cfg (rest : List Pending) (s : State) : (taken rest s).cfg = s.cfg := rfl

@[simp] theorem taken_ctx (rest : List Pending) (s : State) : (taken rest s).ctx = s.ctx := rfl

@[simp] theorem taken_regs (rest : List Pending) (s : State) : (taken rest s).regs = s.regs := rfl

@[simp] theorem taken_x (rest : List Pending) (s : State) : (taken rest s).x = s.x := rfl

@[simp] theorem taken_r (rest : List Pending) (s : State) : (taken rest s).r = s.r := rfl

@[simp] theorem taken_draws (rest : List Pending) (s : State) : (taken rest s).draws = s.draws := rfl

@[simp] theorem taken_pending (rest : List Pending) (s : State) : (taken rest s).pending = rest := rfl

@[simp] theorem taken_out (rest : List Pending) (s : State) : (taken rest s).out = .nothing := rfl

/-! ### `setCtx` -/

@[simp] theorem setCtx_cfg (c : Ctx) (s : State) : (setCtx c s).cfg = s.cfg := by
  unfold setCtx; split <;> rfl

@[simp] theorem setCtx_regs (c : Ctx) (s : State) : (setCtx c s).regs = s.regs := by
  unfold setCtx; split <;> rfl

@[simp] theorem setCtx_draws (c : Ctx) (s : State) : (setCtx c s).draws = s.draws := by
  unfold setCtx; split <;> rfl

@[simp] theorem setCtx_pending (c : Ctx) (s : State) : (setCtx c s).pending = s.pending := by
  unfold setCtx; split <;> rfl

@[simp] theorem setCtx_out (c : Ctx) (s : State) : (setCtx c s).out = s.out := by
  unfold setCtx; split <;> rfl

@[simp] theorem setCtx_ctx (c : Ctx) (s : State) : (setCtx c s).ctx = c := by
  unfold setCtx; split <;> rfl

/-! ### `placeWord` -/

@[simp] theorem placeWord_cfg (w : InstrWord) (s : State) : (placeWord w s).cfg = s.cfg := rfl

@[simp] theorem placeWord_regs (w : InstrWord) (s : State) : (placeWord w s).regs = s.regs := rfl

@[simp] theorem placeWord_x (w : InstrWord) (s : State) : (placeWord w s).x = s.x := rfl

@[simp] theorem placeWord_r (w : InstrWord) (s : State) : (placeWord w s).r = s.r := rfl

@[simp] theorem placeWord_draws (w : InstrWord) (s : State) : (placeWord w s).draws = s.draws := rfl

@[simp] theorem placeWord_out (w : InstrWord) (s : State) : (placeWord w s).out = s.out := rfl

@[simp] theorem placeWord_pending (w : InstrWord) (s : State) :
    (placeWord w s).pending = .word w :: s.pending := rfl

/-! ### `forgetUpper` -/

@[simp] theorem forgetUpper_cfg (c : Cell) (s : State) : (forgetUpper c s).cfg = s.cfg := rfl

@[simp] theorem forgetUpper_ctx (c : Cell) (s : State) : (forgetUpper c s).ctx = s.ctx := rfl

@[simp] theorem forgetUpper_x (c : Cell) (s : State) : (forgetUpper c s).x = s.x := rfl

@[simp] theorem forgetUpper_r (c : Cell) (s : State) : (forgetUpper c s).r = s.r := rfl

@[simp] theorem forgetUpper_draws (c : Cell) (s : State) : (forgetUpper c s).draws = s.draws := rfl

@[simp] theorem forgetUpper_pending (c : Cell) (s : State) : (forgetUpper c s).pending = s.pending := rfl

@[simp] theorem forgetUpper_out (c : Cell) (s : State) : (forgetUpper c s).out = s.out := rfl

/-! ### Operands read after they are written (R711) -/

/-- An operand of AArch64 state read after a write: the written value, and zero for number 31. -/
theorem readX_writeX_self (s : State) (t : BitVec 5) (v : Word) :
    readX (writeX s t v) t = some (if t = 31 then 0 else v) := by
  have ht := t.isLt
  by_cases h : t.toNat < 31
  · have h31 : t ≠ 31 := fun he => by simp [he] at h
    rw [if_neg h31]; simp [readX, writeX, h]
  · have h31 : t = 31 := BitVec.eq_of_toNat_eq (by simp; omega)
    subst h31
    rfl

/-- A write of one operand leaves every other alone. -/
theorem readX_writeX_ne (s : State) (t u : BitVec 5) (v : Word) (h : u ≠ t) :
    readX (writeX s t v) u = readX s u := by
  have hne : t.toNat ≠ u.toNat := fun he => h (BitVec.eq_of_toNat_eq he.symm)
  by_cases ht : t.toNat < 31 <;> by_cases hu : u.toNat < 31 <;>
    simp [readX, writeX, ht, hu, hne]

/-- An operand of AArch32 state read after a write. -/
theorem readR_writeR_self (s : State) (t : BitVec 4) (v : BitVec 32) (h : t ≠ 15) :
    readR (writeR s t v) t = some v := by
  have ht := t.isLt
  have hlt : t.toNat < 15 := by
    rcases Nat.lt_or_ge t.toNat 15 with h' | h'
    · exact h'
    · exact absurd (BitVec.eq_of_toNat_eq (by simp; omega)) h
  simp [readR, writeR, hlt]

/-- A write of one operand leaves every other alone. -/
theorem readR_writeR_ne (s : State) (t u : BitVec 4) (v : BitVec 32) (h : u ≠ t) :
    readR (writeR s t v) u = readR s u := by
  have hne : t.toNat ≠ u.toNat := fun he => h (BitVec.eq_of_toNat_eq he.symm)
  by_cases ht : t.toNat < 15 <;> by_cases hu : u.toNat < 15 <;>
    simp [readR, writeR, ht, hu, hne]

/-- Operands do not depend on the cells, the draws, the caller's list or the output. -/
theorem readX_congr {s t : State} (h : t.x = s.x) (u : BitVec 5) : readX t u = readX s u := by
  simp [readX, h]

theorem readR_congr {s t : State} (h : t.r = s.r) (u : BitVec 4) : readR t u = readR s u := by
  simp [readR, h]

end Sys2Proof.Machine
end

