-- ==== Sys2Proof/Laws/Ops.lean ====
section
/-! SUPPORT. For each shared operation, what it can do: the cases of an answer, what it leaves alone, and that it keeps
the invariant of the state. Later proofs cite these and unfold no operation. -/

namespace Sys2Proof.Machine

/-! ### What the cell operations leave alone -/

theorem onlyCells_refl (s : State) : onlyCells s s := ⟨rfl, rfl, rfl, rfl, rfl, rfl⟩

theorem onlyCells_trans {s t u : State} (h : onlyCells s t) (g : onlyCells t u) : onlyCells s u := by
  obtain ⟨h1, h2, h3, h4, h5, h6⟩ := h
  obtain ⟨g1, g2, g3, g4, g5, g6⟩ := g
  exact ⟨g1.trans h1, g2.trans h2, g3.trans h3, g4.trans h4, g5.trans h5, g6.trans h6⟩

theorem drawn_onlyCells (s : State) : onlyCells s (drawn s) := onlyCells_refl s

theorem rdCell_onlyCells (c : Cell) (m : Word) (s : State) : onlyCells s (rdCell c m s).2 := by
  unfold rdCell; split <;> exact onlyCells_refl s

theorem wrCell_onlyCells (c : Cell) (m v : Word) (s : State) : onlyCells s (wrCell c m v s) := by
  unfold wrCell; split <;> exact onlyCells_refl s

theorem forgetUpper_onlyCells (c : Cell) (s : State) : onlyCells s (forgetUpper c s) := onlyCells_refl s

theorem readLoc_onlyCells (aw : AccessWidth) (s : State) (l : Loc) : onlyCells s (readLoc aw s l).2 := by
  unfold readLoc
  split
  · exact rdCell_onlyCells _ _ _
  · exact onlyCells_trans (rdCell_onlyCells _ _ s) (drawn_onlyCells _)

theorem writeLoc_onlyCells (v : Word) (s : State) (l : Loc) : onlyCells s (writeLoc v s l) := by
  unfold writeLoc
  split
  · exact onlyCells_trans (wrCell_onlyCells _ _ _ _) (forgetUpper_onlyCells _ _)
  · exact wrCell_onlyCells _ _ _ _

/-! ### The cell operations under `PLAIN` (R703) -/

theorem rdCell_plain {c : Cell} {s : State} (m : Word) (h : behaviour s.cfg c = none) :
    rdCell c m s = (mix (settled s c) (stored s c) (draw s), drawn s) := by
  simp [rdCell, h, settled, stored]

theorem wrCell_plain {c : Cell} {s : State} (m v : Word) (h : behaviour s.cfg c = none) :
    wrCell c m v s =
      { s with regs := cellSet (forgetPartners s.cfg c s.regs) c (plainWrite (cellGet s.regs c) m v) } := by
  simp [wrCell, h]

/-- What a `PLAIN` write leaves in any cell. -/
theorem cellGet_wrCell {c : Cell} {s : State} (m v : Word) (h : behaviour s.cfg c = none)
    (hs : regsCanonical s.regs) (d : Cell) :
    cellGet (wrCell c m v s).regs d =
      if d = c then plainWrite (cellGet s.regs c) m v
      else if mayShare s.cfg c d then forgetEntry (cellGet s.regs d) else cellGet s.regs d := by
  rw [wrCell_plain m v h]
  simp only [cellGet_set, cellGet_forgetPartners _ _ _ _ hs]

/-- Everything a `PLAIN` write of bits m of a cell does. -/
theorem wrCell_wrote {c : Cell} {s : State} (m v : Word) (h : behaviour s.cfg c = none) (hs : StateOk s) :
    wrote c m v (BitVec.allOnes 64) s (wrCell c m v s) := by
  have hg := cellGet_wrCell m v h hs.1
  refine ⟨?_, ?_, fun d hd => ?_⟩
  · simp [stored, hg, plainWrite]
  · simp only [settled, hg, plainWrite, if_true]
    ext i hi
    simp [-BitVec.reduceAllOnes]
  · rw [hg, if_neg hd]
    by_cases hm : mayShare s.cfg c d
    · simp [hm, stored, settled, hg, hd, forgetEntry]
    · simp [hm]

/-- Everything a `PLAIN` write through a location does. -/
theorem writeLoc_wrote {l : Loc} {s : State} (v : Word) (h : behaviour s.cfg l.cell = none) (hs : StateOk s) :
    wroteLoc l v s (writeLoc v s l) := by
  have hw := wrCell_wrote (mask l.hi l.lo) (v <<< l.shift) h hs
  unfold wroteLoc writeLoc Loc.keep
  split
  · obtain ⟨h1, h2, h3⟩ := hw
    simp only [stored, settled] at h1 h2
    refine ⟨?_, ?_, fun d hd => ?_⟩
    · simpa [stored, forgetUpper] using h1
    · simp only [settled, forgetUpper, cellGet_set_self, h2]
      congr 1
      ext i hi
      simp [-BitVec.reduceAllOnes]
    · have := h3 d hd
      simp only [forgetUpper, settled, stored, cellGet_set_ne _ _ hd] at this ⊢
      exact this
  · exact hw

/-- What a `PLAIN` read through a location returns, and that it changes no cell. -/
theorem readLoc_shows {l : Loc} {s : State} (aw : AccessWidth) (h : behaviour s.cfg l.cell = none)
    (hb : l.lo ≤ l.hi ∧ l.hi < 64) :
    showsBits l aw s (readLoc aw s l).1.zext ∧ (readLoc aw s l).2.regs = s.regs := by
  have hz : ∀ (v : Word) (j : Nat), j < aw.bits → (AccessVal.ofWord aw v).zext.getLsbD j = v.getLsbD j := by
    intro v j hj
    cases aw
    · have : j < 32 := hj
      have h64 : j < 64 := by omega
      simp [AccessVal.ofWord, AccessVal.zext, this, h64]
    · rfl
  simp only [readLoc, rdCell_plain _ h]
  split
  · next hsh =>
    refine ⟨fun i h1 h2 h3 h4 => ?_, rfl⟩
    simp only [Loc.shift, hsh, if_true] at h3 ⊢
    simp only [hz _ _ h3, slice_getLsbD _ _ _ _ hb.1 hb.2]
    have : i - l.lo + l.lo ≤ l.hi := by omega
    have h5 : l.lo + (i - l.lo) = i := by omega
    simp [this, h5, mix_getLsbD, h4]
  · next hsh =>
    refine ⟨fun i h1 h2 h3 h4 => ?_, rfl⟩
    have hz0 : l.shift = 0 := by simp [Loc.shift, hsh]
    rw [hz0, Nat.sub_zero] at h3 ⊢
    have h5 : i < 64 := by omega
    rw [hz _ _ h3, mix_getLsbD, mask_getLsbD _ _ _ hb.1, mix_getLsbD]
    simp only [h1, h2, h4, h5, decide_true, Bool.and_self, if_true]

theorem allPlain_behaviour {cfg : Config} (h : allPlain cfg) (c : Cell) : behaviour cfg c = none := by
  simp [behaviour, h, lookup]

/-! ### What an answer of an access operation says -/

theorem rd64_cases {x : A64Reg} {s : State} {p : Word × State} (h : rd64 x s = .ok p) :
    passes s (.a64 x) .read ∧
      ((isUnknown s.cfg x = true ∧ p = (draw s, drawn s)) ∨
        (isUnknown s.cfg x = false ∧ p = rdCell (.s64 x) (mask 63 0) s)) := by
  unfold rd64 at h
  split at h
  · cases h
  · next hp =>
    refine ⟨hp, ?_⟩
    split at h
    · next hu => exact .inl ⟨hu, by cases h; rfl⟩
    · next hu => exact .inr ⟨by simpa using hu, by cases h; rfl⟩

theorem wr64_cases {x : A64Reg} {v : Word} {s t : State} (h : wr64 x v s = .ok t) :
    passes s (.a64 x) .write ∧ isUnknown s.cfg x = false ∧ t = wrCell (.s64 x) (mask 63 0) v s := by
  unfold wr64 at h
  split at h
  · cases h
  · next hp =>
    split at h
    · cases h
    · next hu => exact ⟨hp, by simpa using hu, by cases h; rfl⟩

theorem rd32_cases {r : A32Reg} {aw : AccessWidth} {s : State} {p : AccessVal × State} (h : rd32 r aw s = .ok p) :
    passes s (.a32 r) .read ∧ ∃ l, locate s.cfg s.ctx r aw = .ok l ∧ p = readLoc aw s l := by
  unfold rd32 at h
  split at h
  · cases h
  · next hp =>
    split at h
    · cases h
    · next l hl => exact ⟨hp, l, hl, by cases h; rfl⟩

theorem wr32_cases {r : A32Reg} {v : AccessVal} {s t : State} (h : wr32 r v s = .ok t) :
    passes s (.a32 r) .write ∧ ∃ l, locate s.cfg s.ctx r v.width = .ok l ∧ t = writeLoc v.zext s l := by
  unfold wr32 at h
  split at h
  · cases h
  · next hp =>
    split at h
    · cases h
    · next l hl => exact ⟨hp, l, hl, by cases h; rfl⟩

theorem rd64_onlyCells {x : A64Reg} {s : State} {p : Word × State} (h : rd64 x s = .ok p) : onlyCells s p.2 := by
  obtain ⟨-, ⟨-, rfl⟩ | ⟨-, rfl⟩⟩ := rd64_cases h
  · exact drawn_onlyCells s
  · exact rdCell_onlyCells _ _ _

theorem wr64_onlyCells {x : A64Reg} {v : Word} {s t : State} (h : wr64 x v s = .ok t) : onlyCells s t := by
  obtain ⟨-, -, rfl⟩ := wr64_cases h
  exact wrCell_onlyCells _ _ _ _

theorem rd32_onlyCells {r : A32Reg} {aw : AccessWidth} {s : State} {p : AccessVal × State}
    (h : rd32 r aw s = .ok p) : onlyCells s p.2 := by
  obtain ⟨-, l, -, rfl⟩ := rd32_cases h
  exact readLoc_onlyCells _ _ _

theorem wr32_onlyCells {r : A32Reg} {v : AccessVal} {s t : State} (h : wr32 r v s = .ok t) : onlyCells s t := by
  obtain ⟨-, l, -, rfl⟩ := wr32_cases h
  exact writeLoc_onlyCells _ _ _

/-! ### What passing the checks says (R702) -/

theorem passes_cases {s : State} {r : RegName} {k : AccessKind} (h : passes s r k) :
    indexOk s.cfg r = true ∧ nameState r = s.ctx.xs ∧ isUndefined s.cfg r = false ∧
      (nameState r = .aarch32 → s.cfg.anyELCanUseAArch32 = true) ∧ notImplemented s.cfg r = false ∧
      inDTRSet r = false ∧ accessible s.cfg s.ctx r k = true := by
  simp only [passes, accessStop] at h
  split at h; · cases h
  split at h; · cases h
  split at h; · cases h
  split at h; · cases h
  split at h; · cases h
  split at h; · cases h
  split at h; · cases h
  next h1 h2 h3 h4 h5 h6 h7 =>
  refine ⟨by simpa using h1, by simpa using h2, by simpa using h3, fun hn => ?_, by simpa using h5, by simpa using h6,
    by simpa using h7⟩
  cases hb : s.cfg.anyELCanUseAArch32
  · exact absurd ⟨hn, hb⟩ h4
  · rfl

/-- An AArch64 register that passes the checks has a cell. -/
theorem cellExists_s64 {s : State} {x : A64Reg} {k : AccessKind} (h : passes s (.a64 x) k) :
    cellExists s.cfg (.s64 x) = true := by
  obtain ⟨h1, -, -, -, -, h6, -⟩ := passes_cases h
  have h6 : inDTRSet64 x.name = false := h6
  simp [cellExists, h1, h6]

/-! ### Where an AArch32 register is stored -/

/-- A row relates equal indices, and no row of a name outside the data transfer set names a register of that set. -/
theorem views_index (r : A32Name) :
    ∀ p ∈ views r, indexKind64 p.1 = indexKind32 r ∧ (inDTRSet32 r = false → inDTRSet64 p.1 = false) := by
  cases r <;> decide

/-- The ranges of a row lie in 64 bits. -/
theorem views_bits (r : A32Name) : ∀ p ∈ views r, ∀ hi lo, p.2 = .kept hi lo → lo ≤ hi ∧ hi < 64 := by
  cases r <;> simp [views]

/-- The cases of a location (R708). -/
theorem locate_cases {cfg : Config} {ctx : Ctx} {r : A32Reg} {aw : AccessWidth} {l : Loc}
    (h : locate cfg ctx r aw = .ok l) :
    (views r.name = [] ∧ r.name ≠ .SPSR ∧ aw.bits = w32 cfg r.name ∧ l = .own (.s32 r) (w32 cfg r.name)) ∨
    (∃ x f, ((r.name ≠ .RMR ∧ (x, f) ∈ views r.name) ∨
          (r.name = .RMR ∧ f = .low32 ∧ (x = .RMR_EL1 ∨ x = .RMR_EL3))) ∧
        footnoteA cfg r.name ctx = true ∧ aw.bits = f.need (w32 cfg r.name) ∧
        l = .view (.s64 ⟨x, r.idx⟩) (f.bits (w32 cfg r.name)).1 (f.bits (w32 cfg r.name)).2 f.shifted (f == .narrowed)) := by
  unfold locate at h
  split at h
  · cases h
  · next hr =>
    split at h
    · cases h
    next hs =>
    split at h
    · cases h
    next hw =>
    refine .inl ⟨?_, hs, by simpa using hw, by cases h; rfl⟩
    unfold rowOf at hr
    split at hr
    · split at hr <;> cases hr
    · simpa using hr
  · next x f hr =>
    split at h
    · cases h
    next hfn =>
    split at h
    · cases h
    split at h
    · cases h
    next hw =>
    refine .inr ⟨x, f, ?_, by simpa using hfn, by simpa using hw, by cases h; rfl⟩
    unfold rowOf at hr
    split at hr
    · next hrmr =>
      refine .inr ⟨hrmr, ?_⟩
      split at hr <;> cases hr <;> simp
    · next hrmr =>
      refine .inl ⟨hrmr, ?_⟩
      have hr : (views r.name).head? = some (x, f) := by simpa using hr
      exact List.mem_of_mem_head? (by simp [hr])

/-- The bits of a location lie in its cell. -/
theorem locate_bits {cfg : Config} {ctx : Ctx} {r : A32Reg} {aw : AccessWidth} {l : Loc}
    (h : locate cfg ctx r aw = .ok l) : l.lo ≤ l.hi ∧ l.hi < 64 := by
  have haw : aw.bits = 32 ∨ aw.bits = 64 := by cases aw <;> simp [AccessWidth.bits]
  rcases locate_cases h with ⟨-, -, hw, rfl⟩ | ⟨x, f, hx, -, hw, rfl⟩
  · simp only [Loc.lo, Loc.hi]; omega
  · simp only [Loc.lo, Loc.hi]
    cases f with
    | kept hi lo =>
      rcases hx with ⟨-, hm⟩ | ⟨-, hf, -⟩
      · exact views_bits _ _ hm hi lo rfl
      · cases hf
    | whole => simp only [RangeForm.bits, RangeForm.need] at hw ⊢; omega
    | _ => simp [RangeForm.bits]

theorem cellExists_loc {s : State} {r : A32Reg} {k : AccessKind} {aw : AccessWidth} {l : Loc}
    (h : passes s (.a32 r) k) (hl : locate s.cfg s.ctx r aw = .ok l) : cellExists s.cfg l.cell = true := by
  obtain ⟨h1, -, -, -, -, h6, -⟩ := passes_cases h
  have h6 : inDTRSet32 r.name = false := h6
  rcases locate_cases hl with ⟨hv, hs, -, rfl⟩ | ⟨x, f, hx, -, -, rfl⟩
  · simp [Loc.cell, cellExists, h1, hv, hs]
  · have hk : indexKind64 x = indexKind32 r.name ∧ inDTRSet64 x = false := by
      rcases hx with ⟨-, hm⟩ | ⟨hr, -, hx⟩
      · have := views_index r.name (x, f) hm
        exact ⟨this.1, this.2 h6⟩
      · rw [hr]; rcases hx with rfl | rfl <;> decide
    simp only [indexOk] at h1
    simp [Loc.cell, cellExists, indexOk, hk.1, hk.2]
    simpa using h1

/-! ### The invariant is kept -/

theorem cutEntry_s64 (cfg : Config) (x : A64Reg) (e : Entry) : cutEntry cfg (.s64 x) e = e := by
  have h : ∀ v : Word, v &&& BitVec.allOnes 64 = v := fun v => by
    ext i h
    simp [-BitVec.reduceAllOnes]
  simp [cutEntry, cellWidth, h, -BitVec.reduceAllOnes]

theorem rdCell_inv {s : State} (c : Cell) (m : Word) (h : StateOk s) : StateOk (rdCell c m s).2 := by
  unfold rdCell
  split
  · exact h
  · exact ⟨regsCanonical_applyChanges _ _ h.1, regsFit_applyChanges _ h.2⟩

theorem wrCell_inv {s : State} {c : Cell} {m v : Word} (h : StateOk s) (hc : cellExists s.cfg c = true)
    (hm : cutEntry s.cfg c (plainWrite (cellGet s.regs c) m v) = plainWrite (cellGet s.regs c) m v) :
    StateOk (wrCell c m v s) := by
  unfold wrCell
  split
  · exact ⟨regsCanonical_set _ _ (regsCanonical_forgetPartners _ _ h.1),
      regsFit_set (regsFit_forgetPartners c h.2) hc hm⟩
  · exact ⟨regsCanonical_applyChanges _ _ h.1, regsFit_applyChanges _ h.2⟩

theorem forgetUpper_inv {s : State} {x : A64Reg} (h : StateOk s) (hc : cellExists s.cfg (.s64 x) = true) :
    StateOk (forgetUpper (.s64 x) s) :=
  ⟨regsCanonical_set _ _ h.1, regsFit_set h.2 hc (cutEntry_s64 _ _ _)⟩

/-- A write of the low w bits keeps an entry within w bits. -/
theorem cutEntry_plainWrite {cfg : Config} {c : Cell} {e : Entry} {w : Nat} (v : Word)
    (hw : cellWidth cfg c = w) (h0 : 0 < w) (he : cutEntry cfg c e = e) :
    cutEntry cfg c (plainWrite e (mask (w - 1) 0) v) = plainWrite e (mask (w - 1) 0) v := by
  have hm : mask (w - 1) 0 = (BitVec.allOnes (cellWidth cfg c)).setWidth 64 := by
    rw [hw]
    obtain ⟨n, rfl⟩ : ∃ n, w = n + 1 := ⟨w - 1, by omega⟩
    simp [mask]
  have h1 := congrArg Entry.val he
  have h2 := congrArg Entry.known he
  simp only [cutEntry] at h1 h2
  simp only [cutEntry, plainWrite, mix, hm]
  generalize (BitVec.allOnes (cellWidth cfg c)).setWidth 64 = m at *
  congr 1
  · rw [← h1]
    ext i hi
    simp only [BitVec.getElem_and, BitVec.getElem_or, BitVec.getElem_not]
    cases m[i] <;> simp
  · rw [← h2]
    ext i hi
    simp only [BitVec.getElem_and, BitVec.getElem_or]
    cases m[i] <;> simp

theorem readLoc_inv {s : State} (aw : AccessWidth) (l : Loc) (h : StateOk s) : StateOk (readLoc aw s l).2 := by
  unfold readLoc
  split
  · exact rdCell_inv _ _ h
  · exact rdCell_inv l.cell (mask l.hi l.lo) h

theorem writeLoc_inv {s : State} {r : A32Reg} {k : AccessKind} {aw : AccessWidth} {l : Loc} (v : Word) (h : StateOk s)
    (hp : passes s (.a32 r) k) (hl : locate s.cfg s.ctx r aw = .ok l) : StateOk (writeLoc v s l) := by
  have hc := cellExists_loc hp hl
  have hw : StateOk (wrCell l.cell (mask l.hi l.lo) (v <<< l.shift) s) := by
    refine wrCell_inv h hc ?_
    rcases locate_cases hl with ⟨-, -, hw, rfl⟩ | ⟨x, f, -, -, -, rfl⟩
    · simp only [Loc.cell, Loc.hi, Loc.lo]
      refine cutEntry_plainWrite _ (by simp only [cellWidth]) ?_ (regsFit_get h.2 _)
      rw [← hw]; cases aw <;> decide
    · exact cutEntry_s64 _ _ _
  unfold writeLoc
  split
  · next hn =>
    rcases locate_cases hl with ⟨-, -, -, rfl⟩ | ⟨x, f, -, -, -, rfl⟩
    · simp [Loc.narrowed] at hn
    · exact forgetUpper_inv hw (by rw [(wrCell_onlyCells _ _ _ _).1]; exact hc)
  · exact hw

theorem rd64_inv {x : A64Reg} {s : State} {p : Word × State} (h : StateOk s) (hr : rd64 x s = .ok p) : StateOk p.2 := by
  obtain ⟨-, ⟨-, rfl⟩ | ⟨-, rfl⟩⟩ := rd64_cases hr
  · exact h
  · exact rdCell_inv _ _ h

theorem wr64_inv {x : A64Reg} {v : Word} {s t : State} (h : StateOk s) (hr : wr64 x v s = .ok t) : StateOk t := by
  obtain ⟨hp, -, rfl⟩ := wr64_cases hr
  exact wrCell_inv h (cellExists_s64 hp) (cutEntry_s64 _ _ _)

theorem rd32_inv {r : A32Reg} {aw : AccessWidth} {s : State} {p : AccessVal × State} (h : StateOk s)
    (hr : rd32 r aw s = .ok p) : StateOk p.2 := by
  obtain ⟨-, l, -, rfl⟩ := rd32_cases hr
  exact readLoc_inv aw l h

theorem wr32_inv {r : A32Reg} {v : AccessVal} {s t : State} (h : StateOk s) (hr : wr32 r v s = .ok t) : StateOk t := by
  obtain ⟨hp, l, hl, rfl⟩ := wr32_cases hr
  exact writeLoc_inv _ h hp hl

end Sys2Proof.Machine
end

