-- ==== Sys2Proof/Laws/PerInstr.lean ====
section
/-! SUPPORT. Statements about every instruction as syntax, one lemma per constructor of `Instr`. -/

namespace Sys2Proof.Laws.EncodingFixedBits

/-- The mask of an instruction's row in the opcode table (30_encoding.md R72 to R74). -/
def rowMask : Instr → InstrWord
  | .mrs _ _ => 0xFFF00000
  | .msr _ _ => 0xFFF00000
  | .mrc _ _ => 0x0F100010
  | .mcr _ _ => 0x0F100010
  | .mrrc _ _ _ => 0x0FF00000
  | .mcrr _ _ _ => 0x0FF00000

/-- The match value of an instruction's row in the opcode table. -/
def rowMatch : Instr → InstrWord
  | .mrs _ _ => 0xD5300000
  | .msr _ _ => 0xD5100000
  | .mrc _ _ => 0x0E100010
  | .mcr _ _ => 0x0E000010
  | .mrrc _ _ _ => 0x0C500000
  | .mcrr _ _ _ => 0x0C400000

/-- The word of an instruction matches its row of the opcode table, with every field at every value. -/
def Statement (i : Instr) : Prop := encode i &&& rowMask i = rowMatch i

theorem mrs (sel : Sel64) (rt : BitVec 5) : Statement (.mrs sel rt) := encodeSysreg64_fixed 1 sel rt

theorem msr (sel : Sel64) (rt : BitVec 5) : Statement (.msr sel rt) := encodeSysreg64_fixed 0 sel rt

theorem mrc (sel : Sel32) (rt : BitVec 4) : Statement (.mrc sel rt) := encodeCp32_fixed 1 sel rt

theorem mcr (sel : Sel32) (rt : BitVec 4) : Statement (.mcr sel rt) := encodeCp32_fixed 0 sel rt

theorem mrrc (sel : Sel32x64) (rt rt2 : BitVec 4) : Statement (.mrrc sel rt rt2) := encodeCp64_fixed 1 sel rt rt2

theorem mcrr (sel : Sel32x64) (rt rt2 : BitVec 4) : Statement (.mcrr sel rt rt2) := encodeCp64_fixed 0 sel rt rt2

end Sys2Proof.Laws.EncodingFixedBits
end

