-- ==== Sys2Proof/Machine/Text.lean ====
section
/-! DEFINITION. The printed spelling of every name (30_encoding.md R62 to R65, R14) and the short descriptions the
tables give (40_by_execution_state.md R110 to R201, 43_aarch32_only_and_id.md R510 to R538). No operation computes on
these strings (R16, R601); they serve a reader and the lookup of a name that a caller writes as text. -/

namespace Sys2Proof

/-- The AArch64 name as printed (R62). -/
def A64Name.text : A64Name → String
  | .ACTLR_EL1 => "ACTLR_EL1"
  | .ACTLR_EL2 => "ACTLR_EL2"
  | .AFSR0_EL1 => "AFSR0_EL1"
  | .AFSR0_EL2 => "AFSR0_EL2"
  | .AFSR0_EL3 => "AFSR0_EL3"
  | .AFSR1_EL1 => "AFSR1_EL1"
  | .AFSR1_EL2 => "AFSR1_EL2"
  | .AFSR1_EL3 => "AFSR1_EL3"
  | .AMAIR2_EL1 => "AMAIR2_EL1"
  | .AMAIR2_EL2 => "AMAIR2_EL2"
  | .AMAIR2_EL3 => "AMAIR2_EL3"
  | .AMAIR_EL1 => "AMAIR_EL1"
  | .AMAIR_EL2 => "AMAIR_EL2"
  | .AMAIR_EL3 => "AMAIR_EL3"
  | .AMCFGR_EL0 => "AMCFGR_EL0"
  | .AMCGCR_EL0 => "AMCGCR_EL0"
  | .AMCNTENCLR0_EL0 => "AMCNTENCLR0_EL0"
  | .AMCNTENCLR1_EL0 => "AMCNTENCLR1_EL0"
  | .AMCNTENSET0_EL0 => "AMCNTENSET0_EL0"
  | .AMCNTENSET1_EL0 => "AMCNTENSET1_EL0"
  | .AMCR_EL0 => "AMCR_EL0"
  | .AMEVCNTR0n_EL0 => "AMEVCNTR0<n>_EL0"
  | .AMEVCNTR1n_EL0 => "AMEVCNTR1<n>_EL0"
  | .AMEVTYPER0n_EL0 => "AMEVTYPER0<n>_EL0"
  | .AMEVTYPER1n_EL0 => "AMEVTYPER1<n>_EL0"
  | .AMUSERENR_EL0 => "AMUSERENR_EL0"
  | .CNTFRQ_EL0 => "CNTFRQ_EL0"
  | .CNTHCTL_EL2 => "CNTHCTL_EL2"
  | .CNTHPS_CTL_EL2 => "CNTHPS_CTL_EL2"
  | .CNTHPS_CVAL_EL2 => "CNTHPS_CVAL_EL2"
  | .CNTHPS_TVAL_EL2 => "CNTHPS_TVAL_EL2"
  | .CNTHP_CTL_EL2 => "CNTHP_CTL_EL2"
  | .CNTHP_CVAL_EL2 => "CNTHP_CVAL_EL2"
  | .CNTHP_TVAL_EL2 => "CNTHP_TVAL_EL2"
  | .CNTHVS_CTL_EL2 => "CNTHVS_CTL_EL2"
  | .CNTHVS_CVAL_EL2 => "CNTHVS_CVAL_EL2"
  | .CNTHVS_TVAL_EL2 => "CNTHVS_TVAL_EL2"
  | .CNTHV_CTL_EL2 => "CNTHV_CTL_EL2"
  | .CNTHV_CVAL_EL2 => "CNTHV_CVAL_EL2"
  | .CNTHV_TVAL_EL2 => "CNTHV_TVAL_EL2"
  | .CNTKCTL_EL1 => "CNTKCTL_EL1"
  | .CNTPCT_EL0 => "CNTPCT_EL0"
  | .CNTPS_CTL_EL1 => "CNTPS_CTL_EL1"
  | .CNTPS_CVAL_EL1 => "CNTPS_CVAL_EL1"
  | .CNTPS_TVAL_EL1 => "CNTPS_TVAL_EL1"
  | .CNTP_CTL_EL0 => "CNTP_CTL_EL0"
  | .CNTP_CVAL_EL0 => "CNTP_CVAL_EL0"
  | .CNTP_TVAL_EL0 => "CNTP_TVAL_EL0"
  | .CNTVCT_EL0 => "CNTVCT_EL0"
  | .CNTVOFF_EL2 => "CNTVOFF_EL2"
  | .CNTV_CTL_EL0 => "CNTV_CTL_EL0"
  | .CNTV_CVAL_EL0 => "CNTV_CVAL_EL0"
  | .CNTV_TVAL_EL0 => "CNTV_TVAL_EL0"
  | .CONTEXTIDR_EL1 => "CONTEXTIDR_EL1"
  | .CONTEXTIDR_EL2 => "CONTEXTIDR_EL2"
  | .CPACR_EL1 => "CPACR_EL1"
  | .CPTR_EL2 => "CPTR_EL2"
  | .CPTR_EL3 => "CPTR_EL3"
  | .CSSELR_EL1 => "CSSELR_EL1"
  | .DACR32_EL2 => "DACR32_EL2"
  | .DBGAUTHSTATUS_EL1 => "DBGAUTHSTATUS_EL1"
  | .DBGBCRn_EL1 => "DBGBCR<n>_EL1"
  | .DBGBVRn_EL1 => "DBGBVR<n>_EL1"
  | .DBGCLAIMCLR_EL1 => "DBGCLAIMCLR_EL1"
  | .DBGCLAIMSET_EL1 => "DBGCLAIMSET_EL1"
  | .DBGDTRRX_EL0 => "DBGDTRRX_EL0"
  | .DBGDTRTX_EL0 => "DBGDTRTX_EL0"
  | .DBGDTR_EL0 => "DBGDTR_EL0"
  | .DBGPRCR_EL1 => "DBGPRCR_EL1"
  | .DBGVCR32_EL2 => "DBGVCR32_EL2"
  | .DBGWCRn_EL1 => "DBGWCR<n>_EL1"
  | .DBGWVRn_EL1 => "DBGWVR<n>_EL1"
  | .DISR_EL1 => "DISR_EL1"
  | .DLR_EL0 => "DLR_EL0"
  | .DSPSR_EL0 => "DSPSR_EL0"
  | .ELR_EL1 => "ELR_EL1"
  | .ELR_EL2 => "ELR_EL2"
  | .ELR_EL3 => "ELR_EL3"
  | .ERRIDR_EL1 => "ERRIDR_EL1"
  | .ERRSELR_EL1 => "ERRSELR_EL1"
  | .ERXADDR_EL1 => "ERXADDR_EL1"
  | .ERXCTLR_EL1 => "ERXCTLR_EL1"
  | .ERXFR_EL1 => "ERXFR_EL1"
  | .ERXMISC0_EL1 => "ERXMISC0_EL1"
  | .ERXMISC1_EL1 => "ERXMISC1_EL1"
  | .ERXMISC2_EL1 => "ERXMISC2_EL1"
  | .ERXMISC3_EL1 => "ERXMISC3_EL1"
  | .ERXSTATUS_EL1 => "ERXSTATUS_EL1"
  | .ESR_EL1 => "ESR_EL1"
  | .ESR_EL2 => "ESR_EL2"
  | .ESR_EL3 => "ESR_EL3"
  | .FAR_EL1 => "FAR_EL1"
  | .FAR_EL2 => "FAR_EL2"
  | .FAR_EL3 => "FAR_EL3"
  | .FPEXC32_EL2 => "FPEXC32_EL2"
  | .GCSCR_EL1 => "GCSCR_EL1"
  | .GCSCR_EL2 => "GCSCR_EL2"
  | .GCSCR_EL3 => "GCSCR_EL3"
  | .GCSPR_EL0 => "GCSPR_EL0"
  | .GCSPR_EL1 => "GCSPR_EL1"
  | .GCSPR_EL2 => "GCSPR_EL2"
  | .GCSPR_EL3 => "GCSPR_EL3"
  | .HACR_EL2 => "HACR_EL2"
  | .HCR_EL2 => "HCR_EL2"
  | .HPFAR_EL2 => "HPFAR_EL2"
  | .HSTR_EL2 => "HSTR_EL2"
  | .ID_AFR0_EL1 => "ID_AFR0_EL1"
  | .ID_DFR0_EL1 => "ID_DFR0_EL1"
  | .ID_DFR1_EL1 => "ID_DFR1_EL1"
  | .ID_ISAR0_EL1 => "ID_ISAR0_EL1"
  | .ID_ISAR1_EL1 => "ID_ISAR1_EL1"
  | .ID_ISAR2_EL1 => "ID_ISAR2_EL1"
  | .ID_ISAR3_EL1 => "ID_ISAR3_EL1"
  | .ID_ISAR4_EL1 => "ID_ISAR4_EL1"
  | .ID_ISAR5_EL1 => "ID_ISAR5_EL1"
  | .ID_ISAR6_EL1 => "ID_ISAR6_EL1"
  | .ID_MMFR0_EL1 => "ID_MMFR0_EL1"
  | .ID_MMFR1_EL1 => "ID_MMFR1_EL1"
  | .ID_MMFR2_EL1 => "ID_MMFR2_EL1"
  | .ID_MMFR3_EL1 => "ID_MMFR3_EL1"
  | .ID_MMFR4_EL1 => "ID_MMFR4_EL1"
  | .ID_MMFR5_EL1 => "ID_MMFR5_EL1"
  | .ID_PFR0_EL1 => "ID_PFR0_EL1"
  | .ID_PFR1_EL1 => "ID_PFR1_EL1"
  | .ID_PFR2_EL1 => "ID_PFR2_EL1"
  | .IFSR32_EL2 => "IFSR32_EL2"
  | .ISR_EL1 => "ISR_EL1"
  | .MAIR2_EL1 => "MAIR2_EL1"
  | .MAIR2_EL2 => "MAIR2_EL2"
  | .MAIR2_EL3 => "MAIR2_EL3"
  | .MAIR_EL1 => "MAIR_EL1"
  | .MAIR_EL2 => "MAIR_EL2"
  | .MAIR_EL3 => "MAIR_EL3"
  | .MDCCINT_EL1 => "MDCCINT_EL1"
  | .MDCCSR_EL0 => "MDCCSR_EL0"
  | .MDCR_EL2 => "MDCR_EL2"
  | .MDCR_EL3 => "MDCR_EL3"
  | .MDRAR_EL1 => "MDRAR_EL1"
  | .MDSCR_EL1 => "MDSCR_EL1"
  | .MPAM0_EL1 => "MPAM0_EL1"
  | .MPAM1_EL1 => "MPAM1_EL1"
  | .MPAM2_EL2 => "MPAM2_EL2"
  | .MPAM3_EL3 => "MPAM3_EL3"
  | .MPAMBW0_EL1 => "MPAMBW0_EL1"
  | .MPAMBW1_EL1 => "MPAMBW1_EL1"
  | .MPAMBW2_EL2 => "MPAMBW2_EL2"
  | .MPAMBW3_EL3 => "MPAMBW3_EL3"
  | .MPAMVPM0_EL2 => "MPAMVPM0_EL2"
  | .MPAMVPM1_EL2 => "MPAMVPM1_EL2"
  | .MPAMVPM2_EL2 => "MPAMVPM2_EL2"
  | .MPAMVPM3_EL2 => "MPAMVPM3_EL2"
  | .MPAMVPM4_EL2 => "MPAMVPM4_EL2"
  | .MPAMVPM5_EL2 => "MPAMVPM5_EL2"
  | .MPAMVPM6_EL2 => "MPAMVPM6_EL2"
  | .MPAMVPM7_EL2 => "MPAMVPM7_EL2"
  | .MPIDR_EL1 => "MPIDR_EL1"
  | .OSDLR_EL1 => "OSDLR_EL1"
  | .OSDTRRX_EL1 => "OSDTRRX_EL1"
  | .OSDTRTX_EL1 => "OSDTRTX_EL1"
  | .OSECCR_EL1 => "OSECCR_EL1"
  | .OSLAR_EL1 => "OSLAR_EL1"
  | .OSLSR_EL1 => "OSLSR_EL1"
  | .PAR_EL1 => "PAR_EL1"
  | .PFAR_EL1 => "PFAR_EL1"
  | .PFAR_EL2 => "PFAR_EL2"
  | .PIRE0_EL1 => "PIRE0_EL1"
  | .PIRE0_EL2 => "PIRE0_EL2"
  | .PIR_EL1 => "PIR_EL1"
  | .PIR_EL2 => "PIR_EL2"
  | .PIR_EL3 => "PIR_EL3"
  | .PMBSR_EL1 => "PMBSR_EL1"
  | .PMBSR_EL2 => "PMBSR_EL2"
  | .PMBSR_EL3 => "PMBSR_EL3"
  | .PMCCFILTR_EL0 => "PMCCFILTR_EL0"
  | .PMCCNTR_EL0 => "PMCCNTR_EL0"
  | .PMCEID0_EL0 => "PMCEID0_EL0"
  | .PMCEID1_EL0 => "PMCEID1_EL0"
  | .PMCNTENCLR_EL0 => "PMCNTENCLR_EL0"
  | .PMCNTENSET_EL0 => "PMCNTENSET_EL0"
  | .PMCR_EL0 => "PMCR_EL0"
  | .PMEVCNTRn_EL0 => "PMEVCNTR<n>_EL0"
  | .PMEVTYPERn_EL0 => "PMEVTYPER<n>_EL0"
  | .PMINTENCLR_EL1 => "PMINTENCLR_EL1"
  | .PMINTENSET_EL1 => "PMINTENSET_EL1"
  | .PMMIR_EL1 => "PMMIR_EL1"
  | .PMOVSCLR_EL0 => "PMOVSCLR_EL0"
  | .PMOVSSET_EL0 => "PMOVSSET_EL0"
  | .PMSELR_EL0 => "PMSELR_EL0"
  | .PMSWINC_EL0 => "PMSWINC_EL0"
  | .PMUSERENR_EL0 => "PMUSERENR_EL0"
  | .PMXEVCNTR_EL0 => "PMXEVCNTR_EL0"
  | .PMXEVTYPER_EL0 => "PMXEVTYPER_EL0"
  | .POR_EL0 => "POR_EL0"
  | .POR_EL1 => "POR_EL1"
  | .POR_EL2 => "POR_EL2"
  | .POR_EL3 => "POR_EL3"
  | .RMR_EL1 => "RMR_EL1"
  | .RMR_EL2 => "RMR_EL2"
  | .RMR_EL3 => "RMR_EL3"
  | .RVBAR_EL1 => "RVBAR_EL1"
  | .RVBAR_EL2 => "RVBAR_EL2"
  | .RVBAR_EL3 => "RVBAR_EL3"
  | .SCR_EL3 => "SCR_EL3"
  | .SCTLR2_EL1 => "SCTLR2_EL1"
  | .SCTLR2_EL2 => "SCTLR2_EL2"
  | .SCTLR2_EL3 => "SCTLR2_EL3"
  | .SCTLR_EL1 => "SCTLR_EL1"
  | .SCTLR_EL2 => "SCTLR_EL2"
  | .SCTLR_EL3 => "SCTLR_EL3"
  | .SCXTNUM_EL0 => "SCXTNUM_EL0"
  | .SCXTNUM_EL1 => "SCXTNUM_EL1"
  | .SCXTNUM_EL2 => "SCXTNUM_EL2"
  | .SCXTNUM_EL3 => "SCXTNUM_EL3"
  | .SDER32_EL3 => "SDER32_EL3"
  | .SMCR_EL1 => "SMCR_EL1"
  | .SMCR_EL2 => "SMCR_EL2"
  | .SMCR_EL3 => "SMCR_EL3"
  | .SPSR_EL1 => "SPSR_EL1"
  | .SPSR_EL2 => "SPSR_EL2"
  | .SPSR_EL3 => "SPSR_EL3"
  | .SP_EL0 => "SP_EL0"
  | .SP_EL1 => "SP_EL1"
  | .SP_EL2 => "SP_EL2"
  | .SP_EL3 => "SP_EL3"
  | .TCR2_EL1 => "TCR2_EL1"
  | .TCR2_EL2 => "TCR2_EL2"
  | .TCR_EL1 => "TCR_EL1"
  | .TCR_EL2 => "TCR_EL2"
  | .TCR_EL3 => "TCR_EL3"
  | .TFSRE0_EL1 => "TFSRE0_EL1"
  | .TFSR_EL1 => "TFSR_EL1"
  | .TFSR_EL2 => "TFSR_EL2"
  | .TFSR_EL3 => "TFSR_EL3"
  | .TPIDRRO_EL0 => "TPIDRRO_EL0"
  | .TPIDR_EL0 => "TPIDR_EL0"
  | .TPIDR_EL1 => "TPIDR_EL1"
  | .TPIDR_EL2 => "TPIDR_EL2"
  | .TRBSR_EL1 => "TRBSR_EL1"
  | .TRBSR_EL2 => "TRBSR_EL2"
  | .TRBSR_EL3 => "TRBSR_EL3"
  | .TRFCR_EL1 => "TRFCR_EL1"
  | .TRFCR_EL2 => "TRFCR_EL2"
  | .TTBR0_EL1 => "TTBR0_EL1"
  | .TTBR0_EL2 => "TTBR0_EL2"
  | .TTBR0_EL3 => "TTBR0_EL3"
  | .TTBR1_EL1 => "TTBR1_EL1"
  | .TTBR1_EL2 => "TTBR1_EL2"
  | .VBAR_EL1 => "VBAR_EL1"
  | .VBAR_EL2 => "VBAR_EL2"
  | .VBAR_EL3 => "VBAR_EL3"
  | .VDISR_EL2 => "VDISR_EL2"
  | .VMPIDR_EL2 => "VMPIDR_EL2"
  | .VPIDR_EL2 => "VPIDR_EL2"
  | .VSESR_EL2 => "VSESR_EL2"
  | .VSTTBR_EL2 => "VSTTBR_EL2"
  | .VTCR_EL2 => "VTCR_EL2"
  | .VTTBR_EL2 => "VTTBR_EL2"
  | .ZCR_EL1 => "ZCR_EL1"
  | .ZCR_EL2 => "ZCR_EL2"
  | .ZCR_EL3 => "ZCR_EL3"

/-- The AArch32 name as printed (R63). -/
def A32Name.text : A32Name → String
  | .ACTLR => "ACTLR"
  | .ACTLR2 => "ACTLR2"
  | .ADFSR => "ADFSR"
  | .AIFSR => "AIFSR"
  | .AMAIR0 => "AMAIR0"
  | .AMAIR1 => "AMAIR1"
  | .AMCFGR => "AMCFGR"
  | .AMCGCR => "AMCGCR"
  | .AMCNTENCLR0 => "AMCNTENCLR0"
  | .AMCNTENCLR1 => "AMCNTENCLR1"
  | .AMCNTENSET0 => "AMCNTENSET0"
  | .AMCNTENSET1 => "AMCNTENSET1"
  | .AMCR => "AMCR"
  | .AMEVCNTR0n => "AMEVCNTR0<n>"
  | .AMEVCNTR1n => "AMEVCNTR1<n>"
  | .AMEVTYPER0n => "AMEVTYPER0<n>"
  | .AMEVTYPER1n => "AMEVTYPER1<n>"
  | .AMUSERENR => "AMUSERENR"
  | .CNTFRQ => "CNTFRQ"
  | .CNTHCTL => "CNTHCTL"
  | .CNTHPS_CTL => "CNTHPS_CTL"
  | .CNTHPS_CVAL => "CNTHPS_CVAL"
  | .CNTHPS_TVAL => "CNTHPS_TVAL"
  | .CNTHP_CTL => "CNTHP_CTL"
  | .CNTHP_CVAL => "CNTHP_CVAL"
  | .CNTHP_TVAL => "CNTHP_TVAL"
  | .CNTHVS_CTL => "CNTHVS_CTL"
  | .CNTHVS_CVAL => "CNTHVS_CVAL"
  | .CNTHVS_TVAL => "CNTHVS_TVAL"
  | .CNTHV_CTL => "CNTHV_CTL"
  | .CNTHV_CVAL => "CNTHV_CVAL"
  | .CNTHV_TVAL => "CNTHV_TVAL"
  | .CNTKCTL => "CNTKCTL"
  | .CNTPCT => "CNTPCT"
  | .CNTP_CTL => "CNTP_CTL"
  | .CNTP_CVAL => "CNTP_CVAL"
  | .CNTP_TVAL => "CNTP_TVAL"
  | .CNTVCT => "CNTVCT"
  | .CNTVOFF => "CNTVOFF"
  | .CNTV_CTL => "CNTV_CTL"
  | .CNTV_CVAL => "CNTV_CVAL"
  | .CNTV_TVAL => "CNTV_TVAL"
  | .CONTEXTIDR => "CONTEXTIDR"
  | .CPACR => "CPACR"
  | .CSSELR => "CSSELR"
  | .DACR => "DACR"
  | .DBGAUTHSTATUS => "DBGAUTHSTATUS"
  | .DBGBCRn => "DBGBCR<n>"
  | .DBGBVRn => "DBGBVR<n>"
  | .DBGBXVRn => "DBGBXVR<n>"
  | .DBGCLAIMCLR => "DBGCLAIMCLR"
  | .DBGCLAIMSET => "DBGCLAIMSET"
  | .DBGDCCINT => "DBGDCCINT"
  | .DBGDRAR => "DBGDRAR"
  | .DBGDSCRext => "DBGDSCRext"
  | .DBGDSCRint => "DBGDSCRint"
  | .DBGDTRRXext => "DBGDTRRXext"
  | .DBGDTRRXint => "DBGDTRRXint"
  | .DBGDTRTXext => "DBGDTRTXext"
  | .DBGDTRTXint => "DBGDTRTXint"
  | .DBGOSDLR => "DBGOSDLR"
  | .DBGOSECCR => "DBGOSECCR"
  | .DBGOSLAR => "DBGOSLAR"
  | .DBGOSLSR => "DBGOSLSR"
  | .DBGPRCR => "DBGPRCR"
  | .DBGVCR => "DBGVCR"
  | .DBGWCRn => "DBGWCR<n>"
  | .DBGWVRn => "DBGWVR<n>"
  | .DFAR => "DFAR"
  | .DFSR => "DFSR"
  | .DISR => "DISR"
  | .DLR => "DLR"
  | .DSPSR => "DSPSR"
  | .DSPSR2 => "DSPSR2"
  | .ERRIDR => "ERRIDR"
  | .ERRSELR => "ERRSELR"
  | .ERXADDR => "ERXADDR"
  | .ERXADDR2 => "ERXADDR2"
  | .ERXCTLR => "ERXCTLR"
  | .ERXCTLR2 => "ERXCTLR2"
  | .ERXFR => "ERXFR"
  | .ERXFR2 => "ERXFR2"
  | .ERXMISC0 => "ERXMISC0"
  | .ERXMISC1 => "ERXMISC1"
  | .ERXMISC2 => "ERXMISC2"
  | .ERXMISC3 => "ERXMISC3"
  | .ERXMISC4 => "ERXMISC4"
  | .ERXMISC5 => "ERXMISC5"
  | .ERXMISC6 => "ERXMISC6"
  | .ERXMISC7 => "ERXMISC7"
  | .ERXSTATUS => "ERXSTATUS"
  | .FPEXC => "FPEXC"
  | .HACR => "HACR"
  | .HACTLR => "HACTLR"
  | .HACTLR2 => "HACTLR2"
  | .HADFSR => "HADFSR"
  | .HAIFSR => "HAIFSR"
  | .HAMAIR0 => "HAMAIR0"
  | .HAMAIR1 => "HAMAIR1"
  | .HCPTR => "HCPTR"
  | .HCR => "HCR"
  | .HCR2 => "HCR2"
  | .HDCR => "HDCR"
  | .HDFAR => "HDFAR"
  | .HIFAR => "HIFAR"
  | .HMAIR0 => "HMAIR0"
  | .HMAIR1 => "HMAIR1"
  | .HPFAR => "HPFAR"
  | .HRMR => "HRMR"
  | .HSCTLR => "HSCTLR"
  | .HSR => "HSR"
  | .HSTR => "HSTR"
  | .HTCR => "HTCR"
  | .HTPIDR => "HTPIDR"
  | .HTTBR => "HTTBR"
  | .HVBAR => "HVBAR"
  | .ID_AFR0 => "ID_AFR0"
  | .ID_DFR0 => "ID_DFR0"
  | .ID_DFR1 => "ID_DFR1"
  | .ID_ISAR0 => "ID_ISAR0"
  | .ID_ISAR1 => "ID_ISAR1"
  | .ID_ISAR2 => "ID_ISAR2"
  | .ID_ISAR3 => "ID_ISAR3"
  | .ID_ISAR4 => "ID_ISAR4"
  | .ID_ISAR5 => "ID_ISAR5"
  | .ID_ISAR6 => "ID_ISAR6"
  | .ID_MMFR0 => "ID_MMFR0"
  | .ID_MMFR1 => "ID_MMFR1"
  | .ID_MMFR2 => "ID_MMFR2"
  | .ID_MMFR3 => "ID_MMFR3"
  | .ID_MMFR4 => "ID_MMFR4"
  | .ID_MMFR5 => "ID_MMFR5"
  | .ID_PFR0 => "ID_PFR0"
  | .ID_PFR1 => "ID_PFR1"
  | .ID_PFR2 => "ID_PFR2"
  | .IFAR => "IFAR"
  | .IFSR => "IFSR"
  | .ISR => "ISR"
  | .MAIR0 => "MAIR0"
  | .MAIR1 => "MAIR1"
  | .MPIDR => "MPIDR"
  | .MVBAR => "MVBAR"
  | .NMRR => "NMRR"
  | .PAR => "PAR"
  | .PMCCFILTR => "PMCCFILTR"
  | .PMCCNTR => "PMCCNTR"
  | .PMCEID0 => "PMCEID0"
  | .PMCEID1 => "PMCEID1"
  | .PMCEID2 => "PMCEID2"
  | .PMCEID3 => "PMCEID3"
  | .PMCNTENCLR => "PMCNTENCLR"
  | .PMCNTENSET => "PMCNTENSET"
  | .PMCR => "PMCR"
  | .PMEVCNTRn => "PMEVCNTR<n>"
  | .PMEVTYPERn => "PMEVTYPER<n>"
  | .PMINTENCLR => "PMINTENCLR"
  | .PMINTENSET => "PMINTENSET"
  | .PMMIR => "PMMIR"
  | .PMOVSR => "PMOVSR"
  | .PMOVSSET => "PMOVSSET"
  | .PMSELR => "PMSELR"
  | .PMSWINC => "PMSWINC"
  | .PMUSERENR => "PMUSERENR"
  | .PMXEVCNTR => "PMXEVCNTR"
  | .PMXEVTYPER => "PMXEVTYPER"
  | .PRRR => "PRRR"
  | .RMR => "RMR"
  | .SCR => "SCR"
  | .SCTLR => "SCTLR"
  | .SDCR => "SDCR"
  | .SDER => "SDER"
  | .SPSR => "SPSR"
  | .SPSR_abt => "SPSR_abt"
  | .SPSR_fiq => "SPSR_fiq"
  | .SPSR_hyp => "SPSR_hyp"
  | .SPSR_irq => "SPSR_irq"
  | .SPSR_mon => "SPSR_mon"
  | .SPSR_svc => "SPSR_svc"
  | .TPIDRPRW => "TPIDRPRW"
  | .TPIDRURO => "TPIDRURO"
  | .TPIDRURW => "TPIDRURW"
  | .TTBCR => "TTBCR"
  | .TTBCR2 => "TTBCR2"
  | .TTBR0 => "TTBR0"
  | .TTBR1 => "TTBR1"
  | .VBAR => "VBAR"
  | .VDFSR => "VDFSR"
  | .VDISR => "VDISR"
  | .VMPIDR => "VMPIDR"
  | .VPIDR => "VPIDR"
  | .VTCR => "VTCR"
  | .VTTBR => "VTTBR"

/-- The general name as printed in Tables K14-1 to K14-4 (R65). -/
def GeneralName.text : GeneralName → String
  | .CONTEXTIDR => "CONTEXTIDR"
  | .DBGAUTHSTATUS => "DBGAUTHSTATUS"
  | .DBGBCR => "DBGBCR"
  | .DBGBVR => "DBGBVR"
  | .DBGCLAIMCLR => "DBGCLAIMCLR"
  | .DBGCLAIMSET => "DBGCLAIMSET"
  | .DBGDTRRX => "DBGDTRRX"
  | .DBGDTRTX => "DBGDTRTX"
  | .DBGPRCR => "DBGPRCR"
  | .DBGVCR => "DBGVCR"
  | .DBGWCR => "DBGWCR"
  | .DBGWVR => "DBGWVR"
  | .DCCINT => "DCCINT"
  | .DCCSR => "DCCSR"
  | .DLR => "DLR"
  | .DSCR => "DSCR"
  | .DSPSR => "DSPSR"
  | .FAR => "FAR"
  | .HCR => "HCR"
  | .HDCR => "HDCR"
  | .HSCTLR => "HSCTLR"
  | .HTTBR => "HTTBR"
  | .ISR => "ISR"
  | .MPIDR => "MPIDR"
  | .OSDLR => "OSDLR"
  | .OSDTRRX => "OSDTRRX"
  | .OSDTRTX => "OSDTRTX"
  | .OSECCR => "OSECCR"
  | .OSLAR => "OSLAR"
  | .OSLSR => "OSLSR"
  | .PMMIR => "PMMIR"
  | .SCR => "SCR"
  | .SCTLR => "SCTLR"
  | .SDCR => "SDCR"
  | .SDER => "SDER"
  | .SPSR => "SPSR"
  | .TCR => "TCR"
  | .TTBR => "TTBR"
  | .VBAR => "VBAR"
  | .VTCR => "VTCR"
  | .VTTBR => "VTTBR"
  | .PMCCFILTR => "PMCCFILTR"
  | .PMCCNTR => "PMCCNTR"
  | .PMCEID0 => "PMCEID0"
  | .PMCEID1 => "PMCEID1"
  | .PMCEID2 => "PMCEID2"
  | .PMCEID3 => "PMCEID3"
  | .PMCNTENCLR => "PMCNTENCLR"
  | .PMCNTENSET => "PMCNTENSET"
  | .PMCR => "PMCR"
  | .PMEVCNTRn => "PMEVCNTR<n>"
  | .PMEVTYPERn => "PMEVTYPER<n>"
  | .PMINTENCLR => "PMINTENCLR"
  | .PMINTENSET => "PMINTENSET"
  | .PMOVSCLR => "PMOVSCLR"
  | .PMOVSSET => "PMOVSSET"
  | .PMSELR => "PMSELR"
  | .PMSWINC => "PMSWINC"
  | .PMUSERENR => "PMUSERENR"
  | .PMXEVCNTR => "PMXEVCNTR"
  | .PMXEVTYPER => "PMXEVTYPER"
  | .AMCFGR => "AMCFGR"
  | .AMCGCR => "AMCGCR"
  | .AMCNTENCLR0 => "AMCNTENCLR0"
  | .AMCNTENCLR1 => "AMCNTENCLR1"
  | .AMCNTENSET0 => "AMCNTENSET0"
  | .AMCNTENSET1 => "AMCNTENSET1"
  | .AMCR => "AMCR"
  | .AMEVCNTR0n => "AMEVCNTR0<n>"
  | .AMEVCNTR1n => "AMEVCNTR1<n>"
  | .AMEVTYPER0n => "AMEVTYPER0<n>"
  | .AMEVTYPER1n => "AMEVTYPER1<n>"
  | .AMUSERENR => "AMUSERENR"
  | .CNTFRQ => "CNTFRQ"
  | .CNTHCTL => "CNTHCTL"
  | .CNTHP_CTL => "CNTHP_CTL"
  | .CNTHP_CVAL => "CNTHP_CVAL"
  | .CNTHP_TVAL => "CNTHP_TVAL"
  | .CNTKCTL => "CNTKCTL"
  | .CNTP_CTL => "CNTP_CTL"
  | .CNTP_CVAL => "CNTP_CVAL"
  | .CNTP_TVAL => "CNTP_TVAL"
  | .CNTPCT => "CNTPCT"
  | .CNTPS_CTL => "CNTPS_CTL"
  | .CNTPS_CVAL => "CNTPS_CVAL"
  | .CNTPS_TVAL => "CNTPS_TVAL"
  | .CNTV_CTL => "CNTV_CTL"
  | .CNTV_CVAL => "CNTV_CVAL"
  | .CNTV_TVAL => "CNTV_TVAL"
  | .CNTVCT => "CNTVCT"
  | .CNTVOFF => "CNTVOFF"

/-- The general form as printed in Table K14-8 (R65). -/
def GeneralForm.text : GeneralForm → String
  | .AFSR0_ELx => "AFSR0_ELx"
  | .AFSR1_ELx => "AFSR1_ELx"
  | .AMAIR2_ELx => "AMAIR2_ELx"
  | .AMAIR_ELx => "AMAIR_ELx"
  | .CONTEXTIDR_ELx => "CONTEXTIDR_ELx"
  | .CPTR_ELx => "CPTR_ELx"
  | .ELR_ELx => "ELR_ELx"
  | .ESR_ELx => "ESR_ELx"
  | .FAR_ELx => "FAR_ELx"
  | .GCSCR_ELx => "GCSCR_ELx"
  | .GCSPR_ELx => "GCSPR_ELx"
  | .MAIR2_ELx => "MAIR2_ELx"
  | .MAIR_ELx => "MAIR_ELx"
  | .MPAMn_ELx => "MPAMn_ELx"
  | .MPAMVPMn_ELx => "MPAMVPMn_ELx"
  | .MPAMBWn_ELx => "MPAMBWn_ELx"
  | .PFAR_ELx => "PFAR_ELx"
  | .PIR_ELx => "PIR_ELx"
  | .PIRE0_ELx => "PIRE0_ELx"
  | .PMBSR_ELx => "PMBSR_ELx"
  | .POR_ELx => "POR_ELx"
  | .RMR_ELx => "RMR_ELx"
  | .RVBAR_ELx => "RVBAR_ELx"
  | .SCTLR2_ELx => "SCTLR2_ELx"
  | .SCTLR_ELx => "SCTLR_ELx"
  | .SCXTNUM_ELx => "SCXTNUM_ELx"
  | .SMCR_ELx => "SMCR_ELx"
  | .SP_ELx => "SP_ELx"
  | .SPSR_ELx => "SPSR_ELx"
  | .TCR2_ELx => "TCR2_ELx"
  | .TCR_ELx => "TCR_ELx"
  | .TFSR_ELx => "TFSR_ELx"
  | .TRBSR_ELx => "TRBSR_ELx"
  | .TRFCR_ELx => "TRFCR_ELx"
  | .TTBR_ELx => "TTBR_ELx"
  | .TTBRn_ELx => "TTBRn_ELx"
  | .TTBR0_ELx => "TTBR0_ELx"
  | .TTBR1_ELx => "TTBR1_ELx"
  | .VBAR_ELx => "VBAR_ELx"
  | .ZCR_ELx => "ZCR_ELx"

/-- The short description Tables K14-1 to K14-4 print for a general name. -/
def GeneralName.description : GeneralName → String
  | .CONTEXTIDR => "Context ID"
  | .DBGAUTHSTATUS => "Debug Authentication Status"
  | .DBGBCR => "Debug Breakpoint Control Registers"
  | .DBGBVR => "Debug Breakpoint Value Registers"
  | .DBGCLAIMCLR => "Debug CLAIM Tag Clear register"
  | .DBGCLAIMSET => "Debug CLAIM Tag Set register"
  | .DBGDTRRX => "Debug Data Transfer Register, Receive"
  | .DBGDTRTX => "Debug Data Transfer Register, Transmit"
  | .DBGPRCR => "Debug Power Control Register"
  | .DBGVCR => "Debug Vector Catch Register"
  | .DBGWCR => "Debug Watchpoint Control Registers"
  | .DBGWVR => "Debug Watchpoint Value Registers"
  | .DCCINT => "Debug Comms Channel Interrupt Enable Register"
  | .DCCSR => "Debug Comms Channel Status Register"
  | .DLR => "Debug Link Register"
  | .DSCR => "Debug System Control Register"
  | .DSPSR => "Debug Saved PE State Register"
  | .FAR => "Fault Address Register"
  | .HCR => "Hypervisor Configuration Register"
  | .HDCR => "Hyp or EL2 Debug Control Register"
  | .HSCTLR => "Hypervisor System Control Register"
  | .HTTBR => "EL2 Translation Table Base Register"
  | .ISR => "Interrupt Status Register"
  | .MPIDR => "Multiprocessor Affinity Register"
  | .OSDLR => "OS Double-Lock Register"
  | .OSDTRRX => "OS Lock Data Transfer Register, Receive"
  | .OSDTRTX => "OS Lock Data Transfer Register, Transmit"
  | .OSECCR => "OS Lock Exception Catch Control Register"
  | .OSLAR => "OS Lock Access Register"
  | .OSLSR => "OS Lock Status Register"
  | .PMMIR => "Performance Monitors Machine Identification Register"
  | .SCR => "Secure Configuration Register"
  | .SCTLR => "System Control Register"
  | .SDCR => "Secure or EL3 Debug Configuration Register"
  | .SDER => "Secure Debug Enable Register"
  | .SPSR => "Saved Program Status Register"
  | .TCR => "Translation Control Register"
  | .TTBR => "Translation Table Base Register"
  | .VBAR => "Vector Base Address Register"
  | .VTCR => "PL1&0 stage 2 Translation Control Register"
  | .VTTBR => "PL1&0 stage 2 Translation Table Base Register"
  | .PMCCFILTR => "Cycle Count Filter Register"
  | .PMCCNTR => "Cycle Count Register"
  | .PMCEID0 => "Performance Monitors Common Event Identification Register 0"
  | .PMCEID1 => "Performance Monitors Common Event Identification Register 1"
  | .PMCEID2 => "Performance Monitors Common Event Identification Register 2"
  | .PMCEID3 => "Performance Monitors Common Event Identification Register 3"
  | .PMCNTENCLR => "Performance Monitors Count Enable Clear register"
  | .PMCNTENSET => "Performance Monitors Count Enable Set register"
  | .PMCR => "Performance Monitors Control Register"
  | .PMEVCNTRn => "Performance Monitors Event Count Registers, n = 0-30"
  | .PMEVTYPERn => "Performance Monitors Event Type Registers, n = 0-30"
  | .PMINTENCLR => "Performance Monitors Interrupt Enable Clear register"
  | .PMINTENSET => "Performance Monitors Interrupt Enable Set register"
  | .PMOVSCLR => "Performance Monitors Overflow Flag Status Register"
  | .PMOVSSET => "Performance Monitors Overflow Flag Status Set register"
  | .PMSELR => "Performance Monitors Event Counter Selection Register"
  | .PMSWINC => "Performance Monitors Software Increment register"
  | .PMUSERENR => "Performance Monitors User Enable Register"
  | .PMXEVCNTR => "Performance Monitors Selected Event Count Register"
  | .PMXEVTYPER => "Performance Monitors Selected Event Type Register"
  | .AMCFGR => "Activity Monitors Configuration Register"
  | .AMCGCR => "Activity Monitors Counter Group Configuration Register"
  | .AMCNTENCLR0 => "Activity Monitors Count Enable Clear Register 0"
  | .AMCNTENCLR1 => "Activity Monitors Count Enable Clear Register 1"
  | .AMCNTENSET0 => "Activity Monitors Count Enable Set Register 0"
  | .AMCNTENSET1 => "Activity Monitors Count Enable Set Register 1"
  | .AMCR => "Activity Monitors Control Register"
  | .AMEVCNTR0n => "Activity Monitors Event Counter Registers 0, n = 0-15"
  | .AMEVCNTR1n => "Activity Monitors Event Counter Registers 1, n = 0-15"
  | .AMEVTYPER0n => "Activity Monitors Event Type Registers 0, n = 0-15"
  | .AMEVTYPER1n => "Activity Monitors Event Type Registers 1, n = 0-15"
  | .AMUSERENR => "Activity Monitors User Enable Register"
  | .CNTFRQ => "Counter-timer Frequency register"
  | .CNTHCTL => "Counter-timer Hypervisor Control register"
  | .CNTHP_CTL => "Counter-timer Hypervisor Physical Timer Control register"
  | .CNTHP_CVAL => "Counter-timer Hypervisor Physical Timer CompareValue register"
  | .CNTHP_TVAL => "Counter-timer Hypervisor Physical Timer TimerValue register"
  | .CNTKCTL => "Counter-timer Kernel Control register"
  | .CNTP_CTL => "Counter-timer Physical Timer Control register"
  | .CNTP_CVAL => "Counter-timer Physical Timer CompareValue register"
  | .CNTP_TVAL => "Counter-timer Physical Timer TimerValue register"
  | .CNTPCT => "Counter-timer Physical Count register"
  | .CNTPS_CTL => "Counter-timer Physical Secure Timer Control register"
  | .CNTPS_CVAL => "Counter-timer Physical Secure Timer CompareValue register"
  | .CNTPS_TVAL => "Counter-timer Physical Secure Timer TimerValue register"
  | .CNTV_CTL => "Counter-timer Virtual Timer Control register"
  | .CNTV_CVAL => "Counter-timer Virtual Timer CompareValue register"
  | .CNTV_TVAL => "Counter-timer Virtual Timer TimerValue register"
  | .CNTVCT => "Counter-timer Virtual Count register"
  | .CNTVOFF => "Counter-timer Virtual Offset register"

/-- The tables (K14-1 to K14-4) that hold a row for the general name; `PMMIR` has a row in two (R104). -/
def GeneralName.tables (g : GeneralName) : List Nat :=
  if g = .PMMIR then [1, 2]
  else if g.ctorIdx ≤ 40 then [1] else if g.ctorIdx ≤ 60 then [2] else if g.ctorIdx ≤ 72 then [3] else [4]

/-- The short description Tables K14-6 and K14-7 print for an AArch64 register that gives access to an AArch32-only
or AArch32 ID register. -/
def A64Name.accessDescription : A64Name → Option String
  | .DACR32_EL2 => some "Domain Access Control Register"
  | .DBGVCR32_EL2 => some "Debug Vector Catch Register"
  | .FPEXC32_EL2 => some "Floating-Point Exception Control Register"
  | .IFSR32_EL2 => some "Instruction Fault Status Register"
  | .SDER32_EL3 => some "AArch32 Secure Debug Enable Register"
  | .ID_AFR0_EL1 => some "AArch32 Auxiliary Feature Register 0"
  | .ID_DFR0_EL1 => some "AArch32 Debug Feature Register 0"
  | .ID_DFR1_EL1 => some "AArch32 Debug Feature Register 1"
  | .ID_ISAR0_EL1 => some "EL1, AArch32 Instruction Set Attribute Register 0"
  | .ID_ISAR1_EL1 => some "EL1, AArch32 Instruction Set Attribute Register 1"
  | .ID_ISAR2_EL1 => some "EL1, AArch32 Instruction Set Attribute Register 2"
  | .ID_ISAR3_EL1 => some "EL1, AArch32 Instruction Set Attribute Register 3"
  | .ID_ISAR4_EL1 => some "EL1, AArch32 Instruction Set Attribute Register 4"
  | .ID_ISAR5_EL1 => some "EL1, AArch32 Instruction Set Attribute Register 5"
  | .ID_ISAR6_EL1 => some "EL1, AArch32 Instruction Set Attribute Register 6"
  | .ID_MMFR0_EL1 => some "AArch32 Memory Model Feature Register 0"
  | .ID_MMFR1_EL1 => some "AArch32 Memory Model Feature Register 1"
  | .ID_MMFR2_EL1 => some "AArch32 Memory Model Feature Register 2"
  | .ID_MMFR3_EL1 => some "AArch32 Memory Model Feature Register 3"
  | .ID_MMFR4_EL1 => some "AArch32 Memory Model Feature Register 4"
  | .ID_MMFR5_EL1 => some "AArch32 Memory Model Feature Register 5"
  | .ID_PFR0_EL1 => some "AArch32 PE Feature Register 0"
  | .ID_PFR1_EL1 => some "AArch32 PE Feature Register 1"
  | .ID_PFR2_EL1 => some "AArch32 PE Feature Register 2"
  | _ => none

/-- The AArch64 name a text spells, if it spells one (names are case-sensitive as printed, R14). -/
def A64Name.ofText (t : String) : Option A64Name := A64Name.all.find? (fun n => n.text = t)

/-- The AArch32 name a text spells, if it spells one. -/
def A32Name.ofText (t : String) : Option A32Name := A32Name.all.find? (fun n => n.text = t)

/-- The general name a text spells, if it spells one. -/
def GeneralName.ofText (t : String) : Option GeneralName := GeneralName.all.find? (fun n => n.text = t)

/-- The general form a text spells, if it spells one. -/
def GeneralForm.ofText (t : String) : Option GeneralForm := GeneralForm.all.find? (fun n => n.text = t)

end Sys2Proof
end

