-- ==== Sys2Proof/Machine/Assembly.lean ====
section
/-! DEFINITION. The assembler syntax of the six instructions (30_encoding.md R81). No operation computes on it; it serves
a reader. AArch32 registers are not named in A32 assembly: the selector stands there. -/

namespace Sys2Proof.Machine

/-- `Xt`; number 31 is written `XZR` (95_test_vectors.md vectors E7, E8). -/
def xText (t : BitVec 5) : String := if t = 31 then "XZR" else "X" ++ toString t.toNat

/-- `Rt`. -/
def rText (t : BitVec 4) : String := "R" ++ toString t.toNat

/-- The generic form `S<op0>_<op1>_C<CRn>_C<CRm>_<op2>`. -/
def Sel64.genericText (sel : Sel64) : String :=
  "S" ++ toString sel.op0.toNat ++ "_" ++ toString sel.op1.toNat ++ "_C" ++ toString sel.crn.toNat ++ "_C" ++
    toString sel.crm.toNat ++ "_" ++ toString sel.op2.toNat

/-- The name of the register the caller's map gives the selector, the generic form where it gives none or an indexed
one, whose concrete spelling the source does not give (R64). -/
def sysregText (cfg : Config) (sel : Sel64) : String :=
  match selected cfg.sysRegSel64 sel with
  | some x => if indexKind64 x.name = .single then x.name.text else Sel64.genericText sel
  | none => Sel64.genericText sel

/-- `p<coproc>, #<opc1>, Rt, c<CRn>, c<CRm>, #<opc2>`. -/
def cp32Text (sel : Sel32) (rt : BitVec 4) : String :=
  "p" ++ toString sel.coproc.toNat ++ ", #" ++ toString sel.opc1.toNat ++ ", " ++ rText rt ++ ", c" ++
    toString sel.crn.toNat ++ ", c" ++ toString sel.crm.toNat ++ ", #" ++ toString sel.opc2.toNat

/-- `p<coproc>, #<opc1>, Rt, Rt2, c<CRm>`. -/
def cp64Text (sel : Sel32x64) (rt rt2 : BitVec 4) : String :=
  "p" ++ toString sel.coproc.toNat ++ ", #" ++ toString sel.opc1.toNat ++ ", " ++ rText rt ++ ", " ++ rText rt2 ++
    ", c" ++ toString sel.crm.toNat

/-- An instruction as assembly. -/
def asmText (cfg : Config) : Instr → String
  | .mrs sel rt => "MRS " ++ xText rt ++ ", " ++ sysregText cfg sel
  | .msr sel rt => "MSR " ++ sysregText cfg sel ++ ", " ++ xText rt
  | .mrc sel rt => "MRC " ++ cp32Text sel rt
  | .mcr sel rt => "MCR " ++ cp32Text sel rt
  | .mrrc sel rt rt2 => "MRRC " ++ cp64Text sel rt rt2
  | .mcrr sel rt rt2 => "MCRR " ++ cp64Text sel rt rt2

end Sys2Proof.Machine
end

