-- ==== Sys2Proof/Tests/Slice0.lean ====
section
/-! SUPPORT. Tests: what the decoder refuses and reads, one step of each instruction, vectors of 95_test_vectors.md
(computed there by hand from the rules), and for every obligation with hypotheses a state that meets them. Expected
results come from the spec's vectors and tables, never from a run of this model. -/

namespace Sys2Proof.Tests

open Sys2Proof Sys2Proof.Machine

/-! ### Small states -/

/-- The state after reset in another context. -/
def inCtx (xs : ExecState) (el : EL) (ss : SecState) : State := { State.reset with ctx := ⟨xs, el, ss⟩ }

/-- AArch64 state at EL1. -/
def s64 : State := inCtx .aarch64 .el1 .nonSecure

/-- AArch32 state at EL1. -/
def s32 : State := inCtx .aarch32 .el1 .nonSecure

/-- A state that holds one cell, the given bits of it settled. -/
def holding (c : Cell) (val known : Word) (s : State) : State := { s with regs := [(c, ⟨val, known⟩)] }

/-- A state with other parameters. -/
def under (cfg : Config) (s : State) : State := { s with cfg := cfg }

/-- A state whose caller issues the given items next. -/
def issuing (l : List Pending) (s : State) : State := { s with pending := l }

/-- A state with every operand unknown. -/
def noOperands (s : State) : State := forgetOperands s

/-- Setting T with EL1 unable to use AArch32. -/
def noEL1AArch32 : Config := { Config.settingT with el1CanUseAArch32 := false }

/-- Setting T with no level able to use AArch32. -/
def noAArch32 : Config := { Config.settingT with el1CanUseAArch32 := false, anyELCanUseAArch32 := false }

/-- Setting T with one access denied. -/
def denying (c : Ctx) (r : RegName) (k : AccessKind) : Config := { Config.settingT with denied := [(c, r, k)] }

/-- The cell of an AArch64 register without an index. -/
def cell64 (n : A64Name) : Cell := .s64 n.reg

/-- The state an outcome gives, the reset state for a stop. -/
def after : Host.Outcome State Fault Refusal → State
  | .next t => t
  | _ => State.reset

/-- The selector of `VBAR_EL1`. -/
def selVbar64 : Sel64 := ⟨3, 0, 12, 0, 0⟩

/-- The selector of `VBAR`. -/
def selVbar32 : Sel32 := ⟨15, 0, 12, 0, 0⟩

/-- The selector of `TTBR0`. -/
def selTtbr0 : Sel32x64 := ⟨15, 0, 2⟩

/-- Where `VBAR` is stored (41_map_general_timer.md R362). -/
def locVbar : Loc := .view (cell64 .VBAR_EL1) 31 0 true false

/-- Where `TTBR0` is stored (R360). -/
def locTtbr0 : Loc := .view (cell64 .TTBR0_EL1) 63 0 true false

/-! ### WellFormed: an ill-formed term for each check -/

theorem test_illformed_op0 : (Instr.mrs ⟨1, 0, 12, 0, 0⟩ 0).wellFormed = false := by decide
theorem test_illformed_op0_msr : (Instr.msr ⟨0, 7, 15, 15, 7⟩ 3).wellFormed = false := by decide
theorem test_illformed_mrc_15 : (Instr.mrc selVbar32 15).wellFormed = false := by decide
theorem test_illformed_mcr_15 : (Instr.mcr selVbar32 15).wellFormed = false := by decide
theorem test_illformed_mrrc_rt : (Instr.mrrc selTtbr0 15 1).wellFormed = false := by decide
theorem test_illformed_mrrc_rt2 : (Instr.mrrc selTtbr0 0 15).wellFormed = false := by decide
theorem test_illformed_mrrc_same : (Instr.mrrc selTtbr0 4 4).wellFormed = false := by decide
theorem test_illformed_mcrr_rt : (Instr.mcrr selTtbr0 15 1).wellFormed = false := by decide
theorem test_illformed_mcrr_rt2 : (Instr.mcrr selTtbr0 0 15).wellFormed = false := by decide
/-- `MCRR` with Rt = Rt2 is permitted (R77 names `MRRC` only). -/
theorem test_wellformed_mcrr_same : (Instr.mcrr selTtbr0 4 4).wellFormed = true := by decide

/-! ### Decoding: words written field by field from R72 to R74 -/

/-- Bits 31-22, L, 1, o0, op1, CRn, CRm, op2, Rt (R72; vectors E3, E8). -/
theorem test_decode_mrs : decode .aarch64
    (0b1101010100#10 ++ 1#1 ++ 1#1 ++ 1#1 ++ 4#3 ++ 1#4 ++ 1#4 ++ 0#3 ++ 2#5) = .ok (.mrs ⟨3, 4, 1, 1, 0⟩ 2) := by decide
theorem test_decode_msr : decode .aarch64
    (0b1101010100#10 ++ 0#1 ++ 1#1 ++ 1#1 ++ 0#3 ++ 12#4 ++ 0#4 ++ 0#3 ++ 31#5) = .ok (.msr ⟨3, 0, 12, 0, 0⟩ 31) := by
  decide
/-- o0 = 0 is op0 = 2 (R72). -/
theorem test_decode_mrs_op0_2 : decode .aarch64
    (0b1101010100#10 ++ 1#1 ++ 1#1 ++ 0#1 ++ 3#3 ++ 5#4 ++ 6#4 ++ 7#3 ++ 9#5) = .ok (.mrs ⟨2, 3, 5, 6, 7⟩ 9) := by decide
/-- cond, 1110, opc1, L, CRn, Rt, coproc, opc2, 1, CRm (R73; vectors E16, E17). -/
theorem test_decode_mrc : decode .aarch32
    (14#4 ++ 14#4 ++ 4#3 ++ 1#1 ++ 1#4 ++ 4#4 ++ 15#4 ++ 0#3 ++ 1#1 ++ 1#4) = .ok (.mrc ⟨15, 4, 1, 1, 0⟩ 4) := by decide
theorem test_decode_mcr : decode .aarch32
    (14#4 ++ 14#4 ++ 4#3 ++ 0#1 ++ 1#4 ++ 5#4 ++ 15#4 ++ 4#3 ++ 1#1 ++ 1#4) = .ok (.mcr ⟨15, 4, 1, 1, 4⟩ 5) := by decide
/-- cond, 1100010, L, Rt2, Rt, coproc, opc1, CRm (R74; vector F5). -/
theorem test_decode_mrrc : decode .aarch32
    (14#4 ++ 0b1100010#7 ++ 1#1 ++ 3#4 ++ 2#4 ++ 15#4 ++ 0#4 ++ 2#4) = .ok (.mrrc ⟨15, 0, 2⟩ 2 3) := by decide
theorem test_decode_mcrr : decode .aarch32
    (14#4 ++ 0b1100010#7 ++ 0#1 ++ 3#4 ++ 2#4 ++ 15#4 ++ 0#4 ++ 2#4) = .ok (.mcrr ⟨15, 0, 2⟩ 2 3) := by decide

/-- Vectors E4 to E6 and E28. -/
theorem test_decode_vectors :
    decode .aarch64 0xD5380186#32 = .ok (.mrs ⟨3, 0, 0, 1, 4⟩ 6) ∧
    decode .aarch64 0xD53C3005#32 = .ok (.mrs ⟨3, 4, 3, 0, 0⟩ 5) ∧
    decode .aarch64 0xD5386003#32 = .ok (.mrs ⟨3, 0, 6, 0, 0⟩ 3) ∧
    decode .aarch32 0xEE0A6F12#32 = .ok (.mcr ⟨15, 0, 10, 2, 0⟩ 6) := by decide

/-- Vectors E9, E10, E12, E20 to E25, E27. -/
theorem test_decode_refuses :
    decode .aarch64 0xD503201F#32 = .error .noPattern ∧ decode .aarch64 0xD528C000#32 = .error .noPattern ∧
    decode .aarch64 0xEE1C0F10#32 = .error .noPattern ∧ decode .aarch32 0x0E1C0F10#32 = .error .condNotAlways ∧
    decode .aarch32 0xEE1CFF10#32 = .error .transferToFlags ∧ decode .aarch32 0xEE0CFF10#32 = .error .notPermitted ∧
    decode .aarch32 0xEC500F02#32 = .error .notPermitted ∧ decode .aarch32 0xEC5F0F02#32 = .error .notPermitted ∧
    decode .aarch32 0xEE1C0F00#32 = .error .noPattern ∧ decode .aarch32 0xD538C000#32 = .error .condNotAlways := by decide

/-- The interface of the host: the same words read in the Execution state that accepts them. -/
theorem test_decodeTableWord :
    decodeTableWord 32 0xD538C000 = some (.mrs selVbar64 0) ∧ decodeTableWord 32 0xEC410F02 = some (.mcrr selTtbr0 0 1) ∧
    decodeTableWord 32 0x0E1C0F10 = none := by decide

/-! ### One step of each instruction -/

/-- A word placed at reset runs: vector F3 (`MSR VBAR_EL1, XZR`). -/
theorem test_step_msr_xzr :
    (after (step (State.reset.withFetchWord 32 0xD518C01F))).regs =
      [(cell64 .VBAR_EL1, ⟨0, BitVec.allOnes 64⟩)] := by decide

/-- Vector F1, its second half. -/
theorem test_msr_writes_vbar :
    (after (exec (.msr selVbar64 0) (writeX s64 0 0x80000800#64))).regs =
      [(cell64 .VBAR_EL1, ⟨0x80000800#64, BitVec.allOnes 64⟩)] := by decide

/-- Step 2 of program P1. -/
theorem test_mrs_reads_vbar :
    ∃ t, exec (.mrs selVbar64 1) (holding (cell64 .VBAR_EL1) 0x80000800#64 (BitVec.allOnes 64) s64) = .next t ∧
      readX t 1 = some 0x80000800#64 :=
  ⟨writeX (drawn (holding (cell64 .VBAR_EL1) 0x80000800#64 (BitVec.allOnes 64) s64)) 1
    (mix (BitVec.allOnes 64) 0x80000800#64 (draw s64)), rfl, by rw [mix_allOnes]; decide⟩

/-- Vector F2: Rt = 31 discards the value. -/
theorem test_mrs_xzr :
    ∃ t, exec (.mrs selVbar64 31) s64 = .next t ∧ t.x = s64.x ∧ t.regs = s64.regs := ⟨drawn s64, rfl, rfl, rfl⟩

/-- Step 4 of program P1: `MRC` reads bits [31:0] of `VBAR_EL1`. -/
theorem test_mrc_reads_low_half :
    ∃ t, exec (.mrc selVbar32 0) (holding (cell64 .VBAR_EL1) 0xFFFF000012345000#64 (BitVec.allOnes 64) s32) = .next t ∧
      readR t 0 = some 0x12345000#32 :=
  ⟨writeR (drawn (holding (cell64 .VBAR_EL1) 0xFFFF000012345000#64 (BitVec.allOnes 64) s32)) 0
    ((AccessVal.ofWord .w32 (slice (mix (BitVec.allOnes 64) 0xFFFF000012345000#64 (draw s32)) 31 0)).zext.extractLsb' 0 32),
    rfl, by rw [mix_allOnes]; decide⟩

/-- Vector C6: `MCR` of `VBAR` leaves bits [63:32] with their value and their known bits. -/
theorem test_mcr_keeps_upper_half :
    (after (exec (.mcr selVbar32 3)
      (writeR (holding (cell64 .VBAR_EL1) 0xFFFF000012345000#64 (BitVec.allOnes 64) s32) 3 0x800#32))).regs =
      [(cell64 .VBAR_EL1, ⟨0xFFFF000000000800#64, BitVec.allOnes 64⟩)] := by decide

/-- Vector C3, line 3: `MCR` of `HCR2` writes bits [63:32] of `HCR_EL2`. -/
theorem test_mcr_high_half :
    (after (exec (.mcr ⟨15, 4, 1, 1, 4⟩ 5) (writeR (inCtx .aarch32 .el2 .nonSecure) 5 2#32))).regs =
      [(cell64 .HCR_EL2, ⟨0x200000000#64, 0xFFFFFFFF00000000#64⟩)] := by decide

/-- Vector F4. -/
theorem test_mrrc_reads_halves :
    ∃ t, exec (.mrrc selTtbr0 0 1) (holding (cell64 .TTBR0_EL1) 0x14000406A#64 (BitVec.allOnes 64) s32) = .next t ∧
      readR t 0 = some 0x4000406A#32 ∧ readR t 1 = some 1#32 :=
  ⟨writePair (drawn (holding (cell64 .TTBR0_EL1) 0x14000406A#64 (BitVec.allOnes 64) s32)) 0 1
    (AccessVal.ofWord .w64 (slice (mix (BitVec.allOnes 64) 0x14000406A#64 (draw s32)) 63 0)).zext,
    rfl, by rw [mix_allOnes]; decide, by rw [mix_allOnes]; decide⟩

/-- Vector F5. -/
theorem test_mcrr_joins_halves :
    (after (exec (.mcrr selTtbr0 2 3) (writeR (writeR s32 2 0x12345000#32) 3 0xFF#32))).regs =
      [(cell64 .TTBR0_EL1, ⟨0xFF12345000#64, BitVec.allOnes 64⟩)] := by decide

/-- Vector F6: the one fault; with X5 unknown the `MSR` refuses before. -/
theorem test_undefined_faults :
    exec (.mrs ⟨3, 4, 3, 0, 0⟩ 5) (under noEL1AArch32 (inCtx .aarch64 .el2 .nonSecure)) = .fault .undefined ∧
    exec (.msr ⟨3, 4, 3, 0, 0⟩ 5) (under noEL1AArch32 (inCtx .aarch64 .el2 .nonSecure)) = .fault .undefined ∧
    exec (.msr ⟨3, 4, 3, 0, 0⟩ 5) (noOperands (under noEL1AArch32 (inCtx .aarch64 .el2 .nonSecure))) =
      .refused .operandUnknown := ⟨rfl, rfl, rfl⟩

/-- Vectors E11, E26: decoded, and refused for the selector. -/
theorem test_selector_not_supplied :
    step (State.reset.withFetchWord 32 0xD538C020) = .refused .selectorNotSupplied ∧
    step (State.reset.withFetchWord 32 0xEE1C0F30) = .refused .selectorNotSupplied := ⟨rfl, rfl⟩

/-! ### The operations: vectors of sections 3 and 4 -/

/-- Vectors A8 to A10, A22, A23, A37. -/
theorem test_resolveState_vectors :
    resolveState .SCTLR ⟨.aarch32, .el1, .nonSecure⟩ = .ok [(r32 .SCTLR).qualified .ns, r32 .HSCTLR] ∧
    resolveState .SCTLR ⟨.aarch32, .el0, .secure⟩ = .ok [r32 .HSCTLR, (r32 .SCTLR).qualified .s] ∧
    resolveStatePrinted .SCTLR ⟨.aarch32, .el1, .secure⟩ =
      [(r32 .SCTLR).qualified .ns, r32 .HSCTLR, (r32 .SCTLR).qualified .s] ∧
    resolveState .CNTPS_CTL ⟨.aarch64, .el3, .secure⟩ = .ok [r64 .CNTPS_CTL_EL1] ∧
    resolveState .CNTPS_CTL ⟨.aarch32, .el3, .secure⟩ = refuse .noRegisterOfThisState ∧
    resolveState .DLR ⟨.aarch64, .el1, .secure⟩ = .ok [(r64 .DLR_EL0).over 31 0] := by decide

/-- Vectors A15, A21. -/
theorem test_resolveState_long_cells :
    resolveState .SPSR ⟨.aarch32, .el1, .secure⟩ =
      .ok [(r32 .SPSR).qualified .generalDescription, r32 .SPSR_abt, r32 .SPSR_fiq, r32 .SPSR_hyp, r32 .SPSR_irq,
        r32 .SPSR_mon, r32 .SPSR_svc] ∧
    resolveState .FAR ⟨.aarch32, .el1, .secure⟩ =
      .ok [r32 .DFAR, r32 .IFAR, r32 .HDFAR, r32 .HIFAR, r64 .FAR_EL3, r32 .HPFAR] := by decide

/-- Vectors B1, B6, B9, B11, B21, B27. -/
theorem test_resolveEL_vectors :
    resolveEL .VBAR_ELx ⟨.aarch64, .el0, .secure⟩ = refuse .noRegisterAtThisLevel ∧
    resolveEL .TTBR_ELx ⟨.aarch64, .el2, .secure⟩ = .ok [.TTBR0_EL2, .TTBR1_EL2, .VTTBR_EL2, .VSTTBR_EL2] ∧
    resolveEL .TTBR1_ELx ⟨.aarch64, .el2, .secure⟩ = .ok [.TTBR1_EL2] ∧
    resolveEL .TFSR_ELx ⟨.aarch64, .el0, .secure⟩ = .ok [.TFSRE0_EL1] ∧
    resolveEL .MPAMn_ELx ⟨.aarch64, .el3, .secure⟩ = .ok [.MPAM3_EL3] ∧
    resolveEL .VBAR_ELx ⟨.aarch32, .el2, .secure⟩ = .ok [.VBAR_EL2] := by decide

/-- The printed names, and words that are no name (vectors A36, C28). -/
theorem test_names_as_printed :
    A64Name.ofText "DBGBVR<n>_EL1" = some .DBGBVRn_EL1 ∧ A32Name.ofText "AMEVCNTR0<n>" = some .AMEVCNTR0n ∧
    GeneralName.ofText "MIDR" = none ∧ A64Name.ofText "MIDR_EL1" = none ∧ A32Name.ofText "MIDR" = none ∧
    GeneralForm.ofText "VBAR_ELx" = some .VBAR_ELx := by decide

/-- Assembly as the vectors print it (E1, E8, E17, E18; R81). -/
theorem test_assembly :
    asmText Config.settingT (.mrs selVbar64 0) = "MRS X0, VBAR_EL1" ∧
    asmText Config.settingT (.msr selVbar64 31) = "MSR VBAR_EL1, XZR" ∧
    asmText Config.settingT (.mcr ⟨15, 4, 1, 1, 4⟩ 5) = "MCR p15, #4, R5, c1, c1, #4" ∧
    asmText Config.settingT (.mrrc selTtbr0 0 1) = "MRRC p15, #0, R0, R1, c2" ∧
    asmText Config.settingT (.mrs ⟨3, 0, 12, 0, 1⟩ 0) = "MRS X0, S3_0_C12_C0_1" := by decide +kernel

/-- The sizes of the groups of Table K14-5, counted in rows (R70, R400), as names: `RMR` has two rows and each "or" row
two names in the general group; the two AArch32 data transfer registers have two rows each in the Debug group. -/
theorem test_row_groups :
    ([RowGroup.general, .timer, .debug, .performanceMonitors, .activityMonitors, .ras].map
      (fun g => (A32Name.all.filter (fun r => (rowGroups r).contains g)).length)) =
      [57 - 1 + 2, 24, 26 - 2, 17, 8, 20] := by decide +kernel

/-- Vector C8, line 3: a row that keeps positions writes bits [47:1] and no other. -/
theorem test_httbr_keeps_positions :
    wr32 A32Name.HTTBR.reg (.b64 0xAAAA000000002002#64)
      (holding (cell64 .TTBR0_EL2) 0xFFFF800012345001#64 (BitVec.allOnes 64) (inCtx .aarch32 .el2 .nonSecure)) =
      .ok (holding (cell64 .TTBR0_EL2) 0xFFFF000000002003#64 (BitVec.allOnes 64) (inCtx .aarch32 .el2 .nonSecure)) := by
  decide

/-- Vector C10, line 3: a narrowed row forgets the upper half. -/
theorem test_narrowed_row :
    (wr32 A32Name.CNTHV_CTL.reg (.b32 1#32)
      (holding (cell64 .CNTHV_CTL_EL2) 0x100000005#64 (BitVec.allOnes 64) (inCtx .aarch32 .el2 .nonSecure))).map
        (fun t => settled t (cell64 .CNTHV_CTL_EL2)) = .ok 0xFFFFFFFF#64 := by decide

/-- Vector C14, line 6: a write of `MVBAR` forgets `VBAR_EL1`, and is itself settled. -/
theorem test_mvbar_forgets_partners :
    (wr32 A32Name.MVBAR.reg (.b32 0x2000#32)
      (holding (cell64 .VBAR_EL1) 0x80000800#64 0xFFFFFFFF#64 (inCtx .aarch32 .el3 .secure))).map
        (fun t => (settled t (cell64 .VBAR_EL1), stored t (.s32 A32Name.MVBAR.reg),
          settled t (.s32 A32Name.MVBAR.reg))) = .ok (0, 0x2000#64, 0xFFFFFFFF#64) := by decide

/-- Vector C17: `init`, and a write that leaves another register alone. -/
theorem test_init_and_frame :
    (wr64 A64Name.VBAR_EL1.reg 0x1000#64 (hostInit [(A64Name.VBAR_EL2.reg, 0x2000#64)] s64)).map
      (fun t => (stored t (cell64 .VBAR_EL2), settled t (cell64 .VBAR_EL2))) = .ok (0x2000#64, BitVec.allOnes 64) := by
  decide

/-- Vectors C16 (line 1), C19 (line 3), C20 (line 2), C23, C24, C29, C30, C31. -/
theorem test_access_refusals :
    rd32 A32Name.SPSR.reg .w32 s32 = refuse .spsrIsNoRegister ∧
    rd32 A32Name.RMR.reg .w32 (inCtx .aarch32 .el2 .nonSecure) = refuse .rmrQualifier ∧
    wr32 A32Name.ACTLR2.reg (.b32 1#32) (under { Config.settingT with haveACTLR2 := false } s32) =
      refuse .notImplemented ∧
    rd64 A64Name.DACR32_EL2.reg (under (denying s64.ctx (.a64 A64Name.DACR32_EL2.reg) .read) s64) =
      refuse .accessNotPermitted ∧
    rd64 A64Name.DACR32_EL2.reg (under noEL1AArch32 s32) = refuse .otherExecutionState ∧
    rd32 A32Name.CONTEXTIDR.reg .w32 (under noAArch32 s32) = refuse .noLevelUsesAArch32 ∧
    rd32 A32Name.DFAR.reg .w32 (under { Config.settingT with footnoteAOff := [(.DFAR, s32.ctx)] } s32) =
      refuse .footnoteA ∧
    rd32 A32Name.DBGDTRRXint.reg .w32 s32 = refuse .dataTransferRegister := by decide

/-- What the spec asks of the parameters holds in setting T (R506, R10, R76). -/
theorem test_settingT_legal : configLegal Config.settingT = true := by decide +kernel

/-! ### For every obligation with hypotheses, a state and operands that meet them all -/

/-- What a successful operation gives, the reset state for a stop. -/
def got : Result State → State
  | .ok t => t
  | .error _ => State.reset

/-- AArch64 state with `VBAR_EL1` settled and X0 holding 5. -/
def w64 : State := writeX (holding (cell64 .VBAR_EL1) 7 (BitVec.allOnes 64) s64) 0 5

/-- AArch32 state with `VBAR_EL1` settled, R0 holding 5 and R1 holding 6. -/
def w32s : State := writeR (writeR (holding (cell64 .VBAR_EL1) 7 (BitVec.allOnes 64) s32) 0 5) 1 6

/-- Setting T with no row of `RMR` selected, so that no parameter tells the levels apart. -/
def levelBlind : Config := { Config.settingT with rmrSel := [] }

theorem witness_DecodeOfEncode :
    (Instr.mrs ⟨2, 7, 15, 15, 7⟩ 31).wellFormed = true ∧ (Instr.msr selVbar64 0).wellFormed = true ∧
    (Instr.mrc selVbar32 14).wellFormed = true ∧ (Instr.mcr selVbar32 0).wellFormed = true ∧
    (Instr.mrrc selTtbr0 0 14).wellFormed = true ∧ (Instr.mcrr selTtbr0 14 14).wellFormed = true := by decide

theorem witness_EncodeOfDecode :
    decode .aarch64 0xD538C01F#32 = .ok (.mrs selVbar64 31) ∧ decode .aarch64 0xD518C000#32 = .ok (.msr selVbar64 0) ∧
    decode .aarch32 0xEE1C0F10#32 = .ok (.mrc selVbar32 0) ∧ decode .aarch32 0xEE0CEF10#32 = .ok (.mcr selVbar32 14) ∧
    decode .aarch32 0xEC510F02#32 = .ok (.mrrc selTtbr0 0 1) ∧ decode .aarch32 0xEC4EEF02#32 = .ok (.mcrr selTtbr0 14 14) := by
  decide

theorem witness_NoWordDecodesInBothStates : decode .aarch64 0xD538C000#32 = .ok (.mrs selVbar64 0) := by decide

/-- Condition fields 1101 and 1111, the neighbours of 1110. -/
theorem witness_ConditionFieldRefused :
    (0xDE1C0F10#32).extractLsb' 28 4 ≠ 14 ∧ (0xFE1C0F10#32).extractLsb' 28 4 ≠ 14 := by decide

/-- The first and the last name of each inventory, in the order of R36 and R37. -/
theorem test_inventory_ends :
    A64Name.all.head? = some .ACTLR_EL1 ∧ A64Name.all.getLast? = some .ZCR_EL3 ∧
    A32Name.all.head? = some .ACTLR ∧ A32Name.all.getLast? = some .VTTBR := by decide

theorem witness_StepRunsDecodedWord :
    (issuing [.word 0xD518C000#32] w64).pending = .word 0xD518C000#32 :: [] ∧
    decode (issuing [.word 0xD518C000#32] w64).ctx.xs 0xD518C000#32 = .ok (.msr selVbar64 0) := by decide

theorem witness_StepRefusesOtherWords :
    (issuing [.word 0xD503201F#32] w64).pending = .word 0xD503201F#32 :: [] ∧
    decode (issuing [.word 0xD503201F#32] w64).ctx.xs 0xD503201F#32 = .error .noPattern := by decide

theorem witness_StepRunsOperation :
    (issuing [.op (.setX 3 4)] w64).pending = .op (.setX 3 4) :: [] ∧ s64.pending = [] := by decide

theorem witness_PlacedWordRuns : (Instr.mcrr selTtbr0 0 1).wellFormed = true := by decide

theorem witness_StepKeepsInvariant :
    StateOk (issuing [.word 0xD518C000#32] w64) ∧
    step (issuing [.word 0xD518C000#32] w64) = .next (after (step (issuing [.word 0xD518C000#32] w64))) :=
  ⟨by decide, rfl⟩

/-- One step that keeps the context and one that changes it. -/
theorem witness_OnlySetCtxChangesContext :
    step (issuing [.word 0xD518C000#32] w64) = .next (after (step (issuing [.word 0xD518C000#32] w64))) ∧
    step (issuing [.op (.setCtx s32.ctx)] w64) = .next (after (step (issuing [.op (.setCtx s32.ctx)] w64))) ∧
    (after (step (issuing [.op (.setCtx s32.ctx)] w64))).ctx = s32.ctx := ⟨rfl, rfl, rfl⟩

/-- Two states that differ in an unsettled bit of `VBAR_EL1`, about to read it. -/
theorem witness_UnsettledBitsNeverShow :
    let s := issuing [.word 0xD538C000#32] (holding (cell64 .VBAR_EL1) 5 3 s64)
    let t := issuing [.word 0xD538C000#32] (holding (cell64 .VBAR_EL1) 1 3 s64)
    s ≠ t ∧ StateOk s ∧ StateOk t ∧ allPlain s.cfg ∧ sameSettled s t := by
  refine ⟨by decide, by decide, by decide, rfl, rfl, rfl, rfl, rfl, rfl, rfl, rfl, fun c => ?_⟩
  simp only [issuing, holding, cellGet]
  split <;> (unfold sameEntry; decide)

theorem witness_DrawsAreFresh :
    step (issuing [.word 0xD538C000#32] w64) = .next (after (step (issuing [.word 0xD538C000#32] w64))) ∧
    exec (.mrs selVbar64 0) w64 = .next (after (exec (.mrs selVbar64 0) w64)) ∧
    exec (.mrc selVbar32 0) w32s = .next (after (exec (.mrc selVbar32 0) w32s)) ∧
    exec (.mrrc selTtbr0 0 1) w32s = .next (after (exec (.mrrc selTtbr0 0 1) w32s)) ∧
    runOp (.rd64 (some A64Name.VBAR_EL1.reg)) w64 = .next (after (runOp (.rd64 (some A64Name.VBAR_EL1.reg)) w64)) ∧
    runOp (.rd32 (some A32Name.VBAR.reg) .w32) w32s =
      .next (after (runOp (.rd32 (some A32Name.VBAR.reg) .w32) w32s)) := ⟨rfl, rfl, rfl, rfl, rfl, rfl⟩

/-- Each side of the equivalence is met by each instruction. -/
theorem witness_CompletesExactlyWhen :
    mayRun w64 (.mrs selVbar64 31) ∧ mayRun w64 (.msr selVbar64 31) ∧ mayRun w32s (.mrc selVbar32 14) ∧
    mayRun w32s (.mcr selVbar32 14) ∧ mayRun w32s (.mrrc selTtbr0 14 0) ∧ mayRun w32s (.mcrr selTtbr0 14 14) :=
  ⟨⟨rfl, A64Name.VBAR_EL1.reg, by decide, by decide⟩, ⟨rfl, by decide, A64Name.VBAR_EL1.reg, by decide, by decide, by decide⟩,
    ⟨rfl, by decide, A32Name.VBAR.reg, locVbar, by decide, by decide, by decide⟩,
    ⟨rfl, by decide, by decide, A32Name.VBAR.reg, locVbar, by decide, by decide, by decide⟩,
    ⟨rfl, by decide, by decide, by decide, A32Name.TTBR0.reg, locTtbr0, by decide, by decide, by decide⟩,
    ⟨rfl, by decide, by decide, by decide, A32Name.TTBR0.reg, locTtbr0, by decide, by decide, by decide⟩⟩

theorem witness_SysregInstructionsRun :
    w64.ctx.xs = .aarch64 ∧ selected w64.cfg.sysRegSel64 selVbar64 = some A64Name.VBAR_EL1.reg ∧
    passes w64 (.a64 A64Name.VBAR_EL1.reg) .read ∧ passes w64 (.a64 A64Name.VBAR_EL1.reg) .write ∧
    isUnknown w64.cfg A64Name.VBAR_EL1.reg = false ∧ readX w64 0 = some 5 ∧
    (under noAArch32 s64).ctx.xs = .aarch64 ∧
    selected noAArch32.sysRegSel64 ⟨3, 0, 0, 1, 4⟩ = some A64Name.ID_MMFR0_EL1.reg ∧
    passes (under noAArch32 s64) (.a64 A64Name.ID_MMFR0_EL1.reg) .read ∧
    isUnknown noAArch32 A64Name.ID_MMFR0_EL1.reg = true := by decide

theorem witness_Cp32InstructionsRun :
    w32s.ctx.xs = .aarch32 ∧ (14 : BitVec 4) ≠ 15 ∧ selected w32s.cfg.sysRegSel32 selVbar32 = some A32Name.VBAR.reg ∧
    passes w32s (.a32 A32Name.VBAR.reg) .read ∧ passes w32s (.a32 A32Name.VBAR.reg) .write ∧
    locate w32s.cfg w32s.ctx A32Name.VBAR.reg .w32 = .ok locVbar ∧ readR w32s 14 = some 0 := by decide

theorem witness_Cp64InstructionsRun :
    w32s.ctx.xs = .aarch32 ∧ (0 : BitVec 4) ≠ 15 ∧ (1 : BitVec 4) ≠ 15 ∧ (0 : BitVec 4) ≠ 1 ∧
    selected w32s.cfg.sysRegSel32x64 selTtbr0 = some A32Name.TTBR0.reg ∧
    passes w32s (.a32 A32Name.TTBR0.reg) .read ∧ passes w32s (.a32 A32Name.TTBR0.reg) .write ∧
    locate w32s.cfg w32s.ctx A32Name.TTBR0.reg .w64 = .ok locTtbr0 ∧ readR w32s 0 = some 5 ∧ readR w32s 1 = some 6 := by
  decide

theorem witness_MrsReadsSettledBits :
    w64.ctx.xs = .aarch64 ∧ selected w64.cfg.sysRegSel64 selVbar64 = some A64Name.VBAR_EL1.reg ∧
    passes w64 (.a64 A64Name.VBAR_EL1.reg) .read ∧ isUnknown w64.cfg A64Name.VBAR_EL1.reg = false ∧
    behaviour w64.cfg (.s64 A64Name.VBAR_EL1.reg) = none ∧ settled w64 (cell64 .VBAR_EL1) = BitVec.allOnes 64 := by decide

theorem witness_MsrWritesRegister :
    StateOk w64 ∧ w64.ctx.xs = .aarch64 ∧ selected w64.cfg.sysRegSel64 selVbar64 = some A64Name.VBAR_EL1.reg ∧
    readX w64 0 = some 5 ∧ passes w64 (.a64 A64Name.VBAR_EL1.reg) .write ∧
    isUnknown w64.cfg A64Name.VBAR_EL1.reg = false ∧ behaviour w64.cfg (.s64 A64Name.VBAR_EL1.reg) = none := by decide

theorem witness_MrcReadsSettledBits :
    w32s.ctx.xs = .aarch32 ∧ selected w32s.cfg.sysRegSel32 selVbar32 = some A32Name.VBAR.reg ∧ (0 : BitVec 4) ≠ 15 ∧
    passes w32s (.a32 A32Name.VBAR.reg) .read ∧ locate w32s.cfg w32s.ctx A32Name.VBAR.reg .w32 = .ok locVbar ∧
    behaviour w32s.cfg locVbar.cell = none ∧ settled w32s locVbar.cell = BitVec.allOnes 64 := by decide

theorem witness_McrWritesNamedBits :
    StateOk w32s ∧ w32s.ctx.xs = .aarch32 ∧ selected w32s.cfg.sysRegSel32 selVbar32 = some A32Name.VBAR.reg ∧
    (0 : BitVec 4) ≠ 15 ∧ readR w32s 0 = some 5 ∧ passes w32s (.a32 A32Name.VBAR.reg) .write ∧
    locate w32s.cfg w32s.ctx A32Name.VBAR.reg .w32 = .ok locVbar ∧ behaviour w32s.cfg locVbar.cell = none := by decide

theorem witness_MrrcReadsSettledBits :
    w32s.ctx.xs = .aarch32 ∧ (0 : BitVec 4) ≠ 15 ∧ (1 : BitVec 4) ≠ 15 ∧ (0 : BitVec 4) ≠ 1 ∧
    selected w32s.cfg.sysRegSel32x64 selTtbr0 = some A32Name.TTBR0.reg ∧ passes w32s (.a32 A32Name.TTBR0.reg) .read ∧
    locate w32s.cfg w32s.ctx A32Name.TTBR0.reg .w64 = .ok locTtbr0 ∧ behaviour w32s.cfg locTtbr0.cell = none := by decide

theorem witness_McrrWritesNamedBits :
    StateOk w32s ∧ w32s.ctx.xs = .aarch32 ∧ (0 : BitVec 4) ≠ 15 ∧ (1 : BitVec 4) ≠ 15 ∧
    selected w32s.cfg.sysRegSel32x64 selTtbr0 = some A32Name.TTBR0.reg ∧ readR w32s 0 = some 5 ∧ readR w32s 1 = some 6 ∧
    passes w32s (.a32 A32Name.TTBR0.reg) .write ∧ locate w32s.cfg w32s.ctx A32Name.TTBR0.reg .w64 = .ok locTtbr0 ∧
    behaviour w32s.cfg locTtbr0.cell = none := by decide

/-- Each of the six instructions completes. -/
theorem witness_InstructionFrame :
    exec (.mrs selVbar64 0) w64 = .next (after (exec (.mrs selVbar64 0) w64)) ∧
    exec (.msr selVbar64 0) w64 = .next (after (exec (.msr selVbar64 0) w64)) ∧
    exec (.mrc selVbar32 0) w32s = .next (after (exec (.mrc selVbar32 0) w32s)) ∧
    exec (.mcr selVbar32 0) w32s = .next (after (exec (.mcr selVbar32 0) w32s)) ∧
    exec (.mrrc selTtbr0 0 1) w32s = .next (after (exec (.mrrc selTtbr0 0 1) w32s)) ∧
    exec (.mcrr selTtbr0 0 0) w32s = .next (after (exec (.mcrr selTtbr0 0 0) w32s)) := ⟨rfl, rfl, rfl, rfl, rfl, rfl⟩

/-- Parameters that do not tell the levels apart, with a next state, a fault and a refusal under them. -/
theorem witness_LevelActsOnlyThroughParameters :
    (let s := under levelBlind w64
     allPlain s.cfg ∧ (∀ c d r k, accessible s.cfg c r k = accessible s.cfg d r k) ∧
       (∀ c d r, footnoteA s.cfg r c = footnoteA s.cfg r d) ∧ (∀ c d, rmrSel s.cfg c = rmrSel s.cfg d) ∧
       exec (.msr selVbar64 0) s = .next (after (exec (.msr selVbar64 0) s)) ∧
       exec (.mrs ⟨3, 0, 12, 0, 1⟩ 0) s = .refused .selectorNotSupplied) ∧
    (let s := under { levelBlind with el1CanUseAArch32 := false } w64
     allPlain s.cfg ∧ (∀ c d r k, accessible s.cfg c r k = accessible s.cfg d r k) ∧
       (∀ c d r, footnoteA s.cfg r c = footnoteA s.cfg r d) ∧ (∀ c d, rmrSel s.cfg c = rmrSel s.cfg d) ∧
       exec (.mrs ⟨3, 4, 3, 0, 0⟩ 0) s = .fault .undefined) :=
  ⟨⟨rfl, fun _ _ _ _ => rfl, fun _ _ r => by cases r <;> rfl, fun _ _ => rfl, rfl, rfl⟩,
    ⟨rfl, fun _ _ _ _ => rfl, fun _ _ r => by cases r <;> rfl, fun _ _ => rfl, rfl⟩⟩

theorem witness_UnknownOperandRefused :
    (noOperands w64).ctx.xs = .aarch64 ∧
    selected (noOperands w64).cfg.sysRegSel64 selVbar64 = some A64Name.VBAR_EL1.reg ∧ readX (noOperands w64) 30 = none := by
  decide

theorem witness_ForbiddenNumbersRefused : s32.ctx.xs = .aarch32 ∧ (15 : BitVec 4) = 15 := by decide

theorem witness_UnsuppliedSelectorRefused :
    (s64.ctx.xs = .aarch64 ∧ selected s64.cfg.sysRegSel64 ⟨2, 0, 0, 0, 0⟩ = none) ∧
    (s32.ctx.xs = .aarch32 ∧ (14 : BitVec 4) ≠ 15 ∧ selected s32.cfg.sysRegSel32 ⟨0, 0, 0, 0, 0⟩ = none) ∧
    (14 : BitVec 4) ≠ 0 ∧ (0 : BitVec 4) ≠ 15 ∧ selected s32.cfg.sysRegSel32x64 ⟨15, 1, 2⟩ = none := by decide

/-- Numbers 31 and 30 of AArch64 state, and 14 of AArch32 state. -/
theorem witness_SetGprSetsOneOperand :
    s64.ctx.xs = .aarch64 ∧ readX (got (setX 31 9 s64)) 31 = some 0 ∧ readX (got (setX 30 9 s64)) 30 = some 9 ∧
    s32.ctx.xs = .aarch32 ∧ (14 : BitVec 4) ≠ 15 ∧ readR (got (setR 14 9 s32)) 14 = some 9 := by decide

/-- The five conditions together, met by a read and by a write. -/
theorem witness_FaultsExactlyWhen :
    (under noEL1AArch32 s64).ctx.xs = .aarch64 ∧ noEL1AArch32.el1CanUseAArch32 = false ∧
    selected (under noEL1AArch32 s64).cfg.sysRegSel64 ⟨3, 4, 3, 0, 0⟩ = some A64Name.DACR32_EL2.reg ∧
    readX (under noEL1AArch32 s64) 31 ≠ none ∧ inTableK14_6 .DACR32_EL2 = true := by decide

/-- Both clauses, for the last of the five registers. -/
theorem witness_TableK14_6Undefined :
    inTableK14_6 .SDER32_EL3 = true ∧ (under noEL1AArch32 s64).cfg.el1CanUseAArch32 = false ∧
    (under noEL1AArch32 s64).ctx.xs = .aarch64 ∧ (under noEL1AArch32 s32).ctx.xs = .aarch32 := by decide

theorem witness_TableK14_7ReadsUnknown :
    inTableK14_7 .ID_MMFR0_EL1 = true ∧ (under noAArch32 s64).cfg.anyELCanUseAArch32 = false ∧
    passes (under noAArch32 s64) (.a64 A64Name.ID_MMFR0_EL1.reg) .read := by decide

theorem witness_TableK14_7WriteRefused :
    inTableK14_7 .ID_PFR2_EL1 = true ∧ (under noAArch32 s64).cfg.anyELCanUseAArch32 = false ∧
    passes (under noAArch32 s64) (.a64 A64Name.ID_PFR2_EL1.reg) .write := by decide

/-- An access that passes, under each kind of name. -/
theorem witness_PassesExactlyWhen :
    passes s64 (.a64 A64Name.VBAR_EL1.reg) .read ∧ passes s32 (.a32 A32Name.VBAR.reg) .write := by decide

/-- The first index beyond each range, of a name of each family in each Execution state, and the last one within
(vector C21). -/
theorem witness_IndexOutOfRangeRefused :
    indexOk s32.cfg (.a32 ⟨.PMEVCNTRn, 31⟩) = false ∧ indexOk s64.cfg (.a64 ⟨.AMEVTYPER0n_EL0, 16⟩) = false ∧
    indexOk s32.cfg (.a32 ⟨.DBGBXVRn, 6⟩) = false ∧ indexOk s64.cfg (.a64 ⟨.DBGWCRn_EL1, 6⟩) = false ∧
    indexOk s64.cfg (.a64 ⟨.VBAR_EL1, 1⟩) = false ∧ indexOk s64.cfg (.a64 ⟨.VBAR_EL1, 0⟩) = true ∧
    indexOk s64.cfg (.a32 ⟨.PMEVCNTRn, 30⟩) = true ∧ indexOk s64.cfg (.a32 ⟨.AMEVCNTR0n, 15⟩) = true ∧
    indexOk s64.cfg (.a32 ⟨.DBGBVRn, 5⟩) = true := by decide

theorem witness_OtherStateNameRefused :
    s32.ctx.xs = .aarch32 ∧ indexOk s32.cfg (.a64 ⟨.DBGBVRn_EL1, 5⟩) = true ∧ s64.ctx.xs = .aarch64 ∧
    indexOk s64.cfg (.a32 A32Name.SPSR.reg) = true := by decide

/-- A denied read and a denied write under each kind of name. -/
theorem witness_DeniedAccessRefused :
    let r64 := under (denying s64.ctx (.a64 A64Name.VBAR_EL1.reg) .read) s64
    let wr64 := under (denying s64.ctx (.a64 A64Name.VBAR_EL1.reg) .write) s64
    let r32 := under (denying s32.ctx (.a32 A32Name.VBAR.reg) .read) s32
    let wr32 := under (denying s32.ctx (.a32 A32Name.VBAR.reg) .write) s32
    (s64.ctx.xs = .aarch64 ∧ indexOk s64.cfg (.a64 A64Name.VBAR_EL1.reg) = true ∧
      isUndefined s64.cfg (.a64 A64Name.VBAR_EL1.reg) = false ∧ inDTRSet64 .VBAR_EL1 = false ∧
      accessible r64.cfg r64.ctx (.a64 A64Name.VBAR_EL1.reg) .read = false ∧
      accessible wr64.cfg wr64.ctx (.a64 A64Name.VBAR_EL1.reg) .write = false) ∧
    (s32.ctx.xs = .aarch32 ∧ indexOk s32.cfg (.a32 A32Name.VBAR.reg) = true ∧ s32.cfg.anyELCanUseAArch32 = true ∧
      notImplemented s32.cfg (.a32 A32Name.VBAR.reg) = false ∧ inDTRSet32 .VBAR = false ∧
      accessible r32.cfg r32.ctx (.a32 A32Name.VBAR.reg) .read = false ∧
      accessible wr32.cfg wr32.ctx (.a32 A32Name.VBAR.reg) .write = false) := by decide

theorem witness_DataTransferRegistersRefused :
    inDTRSet64 .DBGDTR_EL0 = true ∧ s64.ctx.xs = .aarch64 ∧ inDTRSet32 .DBGDTRTXint = true ∧ s32.ctx.xs = .aarch32 ∧
    s32.cfg.anyELCanUseAArch32 = true := by decide

/-- A row of each of the three forms. -/
theorem witness_WidthMustMatch :
    views .DFAR = [(.FAR_EL1, .low32)] ∧ views .IFAR = [(.FAR_EL1, .high32)] ∧ views .TTBR0 = [(.TTBR0_EL1, .full64)] ∧
    A32Name.DFAR ≠ .PMCCNTR ∧ A32Name.IFAR ≠ .PMCCNTR ∧ A32Name.TTBR0 ≠ .PMCCNTR ∧
    footnoteA Config.settingT .DFAR s32.ctx = true ∧ footnoteA Config.settingT .IFAR s32.ctx = true ∧
    footnoteA Config.settingT .TTBR0 s32.ctx = true := by decide

theorem witness_KeptPositionRows :
    Machine.w32 Config.settingT .HTTBR = 64 ∧ Machine.w32 Config.settingT .DBGDSCRint = 32 := by decide

theorem witness_NarrowedRowsForgetUpperHalf :
    (A64Name.CNTHVS_TVAL_EL2, RangeForm.narrowed) ∈ views .CNTHVS_TVAL ∧
    wr32 A32Name.CNTHVS_TVAL.reg (.b32 1#32) s32 = .ok (got (wr32 A32Name.CNTHVS_TVAL.reg (.b32 1#32) s32)) :=
  ⟨by decide, rfl⟩

theorem witness_OrRowsAreSynonyms :
    footnoteA Config.settingT .PRRR s32.ctx = footnoteA Config.settingT .MAIR0 s32.ctx ∧
    footnoteA Config.settingT .NMRR s32.ctx = footnoteA Config.settingT .MAIR1 s32.ctx := by decide

/-- A read of `VBAR` and of `VBAR_EL1` from one state, at the first and the last bit of the range. -/
theorem witness_AliasRead :
    behaviour w32s.cfg locVbar.cell = none ∧ locate w32s.cfg w32s.ctx A32Name.VBAR.reg .w32 = .ok locVbar ∧
    locVbar.cell = cell64 .VBAR_EL1 ∧ locVbar.shifted = true ∧
    rd32 A32Name.VBAR.reg .w32 w32s = .ok (readLoc .w32 w32s locVbar) ∧
    rd64 A64Name.VBAR_EL1.reg (setCtx s64.ctx w32s) =
      .ok (rdCell (cell64 .VBAR_EL1) (mask 63 0) (setCtx s64.ctx w32s)) ∧
    locVbar.lo ≤ 0 ∧ 31 ≤ locVbar.hi ∧ (settled w32s locVbar.cell).getLsbD 0 = true ∧
    (settled w32s locVbar.cell).getLsbD 31 = true :=
  ⟨rfl, rfl, rfl, rfl, rfl, rfl, by decide, by decide, by decide, by decide⟩

/-- A read and a write of `VBAR`, and a read of `VBAR_EL1` whose `rd` gives the same bits. -/
theorem witness_ViewsShareBehaviour :
    locate w32s.cfg w32s.ctx A32Name.VBAR.reg .w32 = .ok locVbar ∧ locVbar.shifted = true ∧ locVbar.narrowed = false ∧
    locVbar.cell = .s64 A64Name.VBAR_EL1.reg ∧
    rd32 A32Name.VBAR.reg .w32 w32s = .ok (readLoc .w32 w32s locVbar) ∧ (AccessVal.b32 9).width = .w32 ∧
    wr32 A32Name.VBAR.reg (.b32 9) w32s = .ok (got (wr32 A32Name.VBAR.reg (.b32 9) w32s)) ∧
    rd64 A64Name.VBAR_EL1.reg (setCtx s64.ctx w32s) =
      .ok (rdCell (cell64 .VBAR_EL1) (mask 63 0) (setCtx s64.ctx w32s)) ∧
    (∀ i, locVbar.lo ≤ i → i ≤ locVbar.hi → (rdCell locVbar.cell (mask locVbar.hi locVbar.lo) w32s).1.getLsbD i =
      (rdCell locVbar.cell (mask 63 0) (setCtx s64.ctx w32s)).1.getLsbD i) ∧
    locVbar.lo ≤ 0 ∧ 31 ≤ locVbar.hi :=
  ⟨rfl, rfl, rfl, rfl, rfl, rfl, rfl, rfl, fun _ _ _ => rfl, by decide, by decide⟩

theorem witness_AliasWrite :
    let t := got (wr32 A32Name.VBAR.reg (.b32 9) w32s)
    StateOk w32s ∧ behaviour w32s.cfg locVbar.cell = none ∧ locate w32s.cfg w32s.ctx A32Name.VBAR.reg .w32 = .ok locVbar ∧
    locVbar.cell = cell64 .VBAR_EL1 ∧ locVbar.shifted = true ∧ wr32 A32Name.VBAR.reg (.b32 9) w32s = .ok t ∧
    rd64 A64Name.VBAR_EL1.reg (setCtx s64.ctx t) = .ok (rdCell (cell64 .VBAR_EL1) (mask 63 0) (setCtx s64.ctx t)) :=
  ⟨by decide, rfl, rfl, rfl, rfl, rfl, rfl⟩

theorem witness_WriteSeenThroughViews :
    let t := got (wr64 A64Name.VBAR_EL1.reg 9 w64)
    StateOk w64 ∧ behaviour w64.cfg (cell64 .VBAR_EL1) = none ∧ wr64 A64Name.VBAR_EL1.reg 9 w64 = .ok t ∧
    locate w64.cfg s32.ctx A32Name.VBAR.reg .w32 = .ok locVbar ∧ locVbar.cell = cell64 .VBAR_EL1 ∧
    rd32 A32Name.VBAR.reg .w32 (setCtx s32.ctx t) = .ok (readLoc .w32 (setCtx s32.ctx t) locVbar) ∧
    locVbar.lo ≤ 0 ∧ 31 ≤ locVbar.hi ∧ 31 - locVbar.shift < AccessWidth.w32.bits :=
  ⟨by decide, rfl, rfl, rfl, rfl, rfl, by decide, by decide, by decide⟩

/-- `DFAR` and `IFAR` written in either order. -/
theorem witness_SplitRegistersJoin :
    let t := got (wr32 A32Name.DFAR.reg (.b32 1) s32)
    let t' := got (wr32 A32Name.IFAR.reg (.b32 2) s32)
    StateOk s32 ∧ allPlain s32.cfg ∧ (A64Name.FAR_EL1, RangeForm.low32) ∈ views .DFAR ∧
    (A64Name.FAR_EL1, RangeForm.high32) ∈ views .IFAR ∧
    wr32 A32Name.DFAR.reg (.b32 1) s32 = .ok t ∧
    wr32 A32Name.IFAR.reg (.b32 2) t = .ok (got (wr32 A32Name.IFAR.reg (.b32 2) t)) ∧
    wr32 A32Name.IFAR.reg (.b32 2) s32 = .ok t' ∧
    wr32 A32Name.DFAR.reg (.b32 1) t' = .ok (got (wr32 A32Name.DFAR.reg (.b32 1) t')) :=
  ⟨by decide, rfl, by decide, by decide, rfl, rfl, rfl, rfl⟩

theorem witness_MayShareLeastRelation :
    carriesFootnoteB .MDSCR_EL1 = true ∧ carriesFootnoteB .OSDTRTX_EL1 = true ∧ A64Name.MDSCR_EL1 ≠ .OSDTRTX_EL1 ∧
    A64Name.VBAR_EL3 ∈ rowMates .MVBAR := by decide

theorem witness_AccessOperationsRun :
    passes s64 (.a64 A64Name.VBAR_EL1.reg) .read ∧ passes s64 (.a64 A64Name.VBAR_EL1.reg) .write ∧
    isUnknown s64.cfg A64Name.VBAR_EL1.reg = false ∧ passes s32 (.a32 A32Name.VBAR.reg) .read ∧
    passes s32 (.a32 A32Name.VBAR.reg) .write ∧ locate s32.cfg s32.ctx A32Name.VBAR.reg .w32 = .ok locVbar := by decide

/-- A context of the other Execution state and one of the same. -/
theorem witness_SetCtxChangesOnlyContext :
    s32.ctx.xs ≠ s64.ctx.xs ∧ (inCtx .aarch64 .el3 .secure).ctx.xs = s64.ctx.xs ∧ (30 : BitVec 5) ≠ 31 := by decide

/-- An empty cell and one that is not empty. -/
theorem witness_ResolveELAnswersByLevel : byEL .VBAR_ELx .el0 = [] ∧ byEL .VBAR_ELx .el1 ≠ [] := by decide

end Sys2Proof.Tests
end

section
/-! ## Scope: refused accesses, fresh draws, and levels as parameters

The statements of 00_scope.md: an access ends with the first check of R702 that applies (R9, R12), every read draws a
fresh value (R15), and the Exception level and the Security state act through the parameters alone (R12). -/

namespace Sys2Proof.Machine

/-! ### An access that a check stops (R702, R706 to R709) -/

theorem rd64_of_stop {x : A64Reg} {s : State} {e : Stop} (h : accessStop s.cfg s.ctx (.a64 x) .read = some e) :
    rd64 x s = .error e := by
  simp [rd64, h]

theorem wr64_of_stop {x : A64Reg} {s : State} {e : Stop} (v : Word)
    (h : accessStop s.cfg s.ctx (.a64 x) .write = some e) : wr64 x v s = .error e := by
  simp [wr64, h]

theorem rd32_of_stop {r : A32Reg} {s : State} {e : Stop} (aw : AccessWidth)
    (h : accessStop s.cfg s.ctx (.a32 r) .read = some e) : rd32 r aw s = .error e := by
  simp [rd32, h]

theorem wr32_of_stop {r : A32Reg} {s : State} {e : Stop} (v : AccessVal)
    (h : accessStop s.cfg s.ctx (.a32 r) .write = some e) : wr32 r v s = .error e := by
  simp [wr32, h]

/-- Step 1 of R702 comes before every other check. -/
theorem accessStop_of_index {cfg : Config} {r : RegName} (ctx : Ctx) (k : AccessKind) (h : indexOk cfg r = false) :
    accessStop cfg ctx r k = some (.refusal .unknownRegister) := by
  simp [accessStop, h]

/-- Step 7 of R702: the access rights decide once no earlier check applies. -/
theorem accessStop_of_denied {cfg : Config} {ctx : Ctx} {r : RegName} {k : AccessKind} (hidx : indexOk cfg r = true)
    (hstate : nameState r = ctx.xs) (hund : isUndefined cfg r = false)
    (h32 : nameState r = .aarch32 → cfg.anyELCanUseAArch32 = true) (himpl : notImplemented cfg r = false)
    (hdtr : inDTRSet r = false) (hacc : accessible cfg ctx r k = false) :
    accessStop cfg ctx r k = some (.refusal .accessNotPermitted) := by
  have hlevel : ¬ (nameState r = .aarch32 ∧ cfg.anyELCanUseAArch32 = false) := fun ⟨hn, hf⟩ => by
    simp [h32 hn] at hf
  rw [accessStop, if_neg (by simp [hidx]), if_neg (by simp [hstate]), if_neg (by simp [hund]), if_neg hlevel,
    if_neg (by simp [himpl]), if_neg (by simp [hdtr]), if_pos hacc]

/-! ### The range of every name (R9) -/

/-- How many registers the family of an AArch64 name has. -/
theorem count_indexKind64 (cfg : Config) (x : A64Name) :
    (indexKind64 x).count cfg =
      if x ∈ [A64Name.PMEVCNTRn_EL0, .PMEVTYPERn_EL0] then 31
      else if x ∈ [A64Name.AMEVCNTR0n_EL0, .AMEVCNTR1n_EL0, .AMEVTYPER0n_EL0, .AMEVTYPER1n_EL0] then 16
      else if x ∈ [A64Name.DBGBCRn_EL1, .DBGBVRn_EL1] then cfg.numBRP
      else if x ∈ [A64Name.DBGWCRn_EL1, .DBGWVRn_EL1] then cfg.numWRP
      else 1 := by
  unfold indexKind64
  split
  case h_11 => simp_all [IndexKind.count]
  all_goals rfl

/-- How many registers the family of an AArch32 name has. -/
theorem count_indexKind32 (cfg : Config) (r : A32Name) :
    (indexKind32 r).count cfg =
      if r ∈ [A32Name.PMEVCNTRn, .PMEVTYPERn] then 31
      else if r ∈ [A32Name.AMEVCNTR0n, .AMEVCNTR1n, .AMEVTYPER0n, .AMEVTYPER1n] then 16
      else if r ∈ [A32Name.DBGBCRn, .DBGBVRn, .DBGBXVRn] then cfg.numBRP
      else if r ∈ [A32Name.DBGWCRn, .DBGWVRn] then cfg.numWRP
      else 1 := by
  unfold indexKind32
  split
  case h_12 => simp_all [IndexKind.count]
  all_goals rfl

/-! ### What a completed instruction, operation or step says (R700, R711) -/

theorem stopped_ne_next (e : Stop) (t : State) : stopped e ≠ .next t := by
  cases e <;> simp [stopped]

/-- `MRS` completes with a read of `RD64`. -/
theorem execMrs_cases {sel : Sel64} {rt : BitVec 5} {s t : State} (h : exec (.mrs sel rt) s = .next t) :
    s.ctx.xs = .aarch64 ∧ ∃ x v u, selected s.cfg.sysRegSel64 sel = some x ∧ rd64 x s = .ok (v, u) ∧
      t = writeX u rt v := by
  simp only [exec, execMrs] at h
  split at h
  · cases h
  next hxs =>
  split at h
  · cases h
  next x hx =>
  split at h
  · exact absurd h (stopped_ne_next _ _)
  next v u hr =>
  exact ⟨by simpa using hxs, x, v, u, hx, hr, by cases h; rfl⟩

/-- `MSR` completes with a write of `WR64`. -/
theorem execMsr_cases {sel : Sel64} {rt : BitVec 5} {s t : State} (h : exec (.msr sel rt) s = .next t) :
    s.ctx.xs = .aarch64 ∧ ∃ x v, selected s.cfg.sysRegSel64 sel = some x ∧ readX s rt = some v ∧
      wr64 x v s = .ok t := by
  simp only [exec, execMsr] at h
  split at h
  · cases h
  next hxs =>
  split at h
  · cases h
  next x hx =>
  split at h
  · cases h
  next v hv =>
  split at h
  · exact absurd h (stopped_ne_next _ _)
  next u hw =>
  exact ⟨by simpa using hxs, x, v, hx, hv, by cases h; exact hw⟩

/-- `MRC` completes with a read of `RD32` at width 32. -/
theorem execMrc_cases {sel : Sel32} {rt : BitVec 4} {s t : State} (h : exec (.mrc sel rt) s = .next t) :
    s.ctx.xs = .aarch32 ∧ rt ≠ 15 ∧ ∃ r v u, selected s.cfg.sysRegSel32 sel = some r ∧
      rd32 r .w32 s = .ok (v, u) ∧ t = writeR u rt (v.zext.extractLsb' 0 32) := by
  simp only [exec, execMrc] at h
  split at h
  · cases h
  next hxs =>
  split at h
  · cases h
  next hrt =>
  split at h
  · cases h
  next r hsel =>
  split at h
  · exact absurd h (stopped_ne_next _ _)
  next v u hr =>
  exact ⟨by simpa using hxs, hrt, r, v, u, hsel, hr, by cases h; rfl⟩

/-- `MCR` completes with a write of `WR32` at width 32. -/
theorem execMcr_cases {sel : Sel32} {rt : BitVec 4} {s t : State} (h : exec (.mcr sel rt) s = .next t) :
    s.ctx.xs = .aarch32 ∧ rt ≠ 15 ∧ ∃ r v, selected s.cfg.sysRegSel32 sel = some r ∧ readR s rt = some v ∧
      wr32 r (.b32 v) s = .ok t := by
  simp only [exec, execMcr] at h
  split at h
  · cases h
  next hxs =>
  split at h
  · cases h
  next hrt =>
  split at h
  · cases h
  next r hsel =>
  split at h
  · cases h
  next v hv =>
  split at h
  · exact absurd h (stopped_ne_next _ _)
  next u hw =>
  exact ⟨by simpa using hxs, hrt, r, v, hsel, hv, by cases h; exact hw⟩

/-- `MRRC` completes with a read of `RD32` at width 64. -/
theorem execMrrc_cases {sel : Sel32x64} {rt rt2 : BitVec 4} {s t : State} (h : exec (.mrrc sel rt rt2) s = .next t) :
    s.ctx.xs = .aarch32 ∧ ¬ (rt = 15 ∨ rt2 = 15 ∨ rt = rt2) ∧ ∃ r v u,
      selected s.cfg.sysRegSel32x64 sel = some r ∧ rd32 r .w64 s = .ok (v, u) ∧ t = writePair u rt rt2 v.zext := by
  simp only [exec, execMrrc] at h
  split at h
  · cases h
  next hxs =>
  split at h
  · cases h
  next hrt =>
  split at h
  · cases h
  next r hsel =>
  split at h
  · exact absurd h (stopped_ne_next _ _)
  next v u hr =>
  exact ⟨by simpa using hxs, hrt, r, v, u, hsel, hr, by cases h; rfl⟩

/-- `MCRR` completes with a write of `WR32` at width 64. -/
theorem execMcrr_cases {sel : Sel32x64} {rt rt2 : BitVec 4} {s t : State} (h : exec (.mcrr sel rt rt2) s = .next t) :
    s.ctx.xs = .aarch32 ∧ ¬ (rt = 15 ∨ rt2 = 15) ∧ ∃ r v, selected s.cfg.sysRegSel32x64 sel = some r ∧
      readPair s rt rt2 = some v ∧ wr32 r (.b64 v) s = .ok t := by
  simp only [exec, execMcrr] at h
  split at h
  · cases h
  next hxs =>
  split at h
  · cases h
  next hrt =>
  split at h
  · cases h
  next r hsel =>
  split at h
  · cases h
  next v hv =>
  split at h
  · exact absurd h (stopped_ne_next _ _)
  next u hw =>
  exact ⟨by simpa using hxs, hrt, r, v, hsel, hv, by cases h; exact hw⟩

theorem answered_cases {α : Type} {s t : State} {f : α → Output} {a : Result α} (h : answered s f a = .next t) :
    ∃ b, a = .ok b ∧ t = withOut s (f b) := by
  match a with
  | .error e => exact absurd h (stopped_ne_next _ _)
  | .ok b => exact ⟨b, rfl, by cases h; rfl⟩

theorem readDone_cases {α : Type} {t : State} {f : α → AccessVal} {a : Result (α × State)}
    (h : readDone f a = .next t) : ∃ v u, a = .ok (v, u) ∧ t = withOut u (.value (f v)) := by
  match a with
  | .error e => exact absurd h (stopped_ne_next _ _)
  | .ok (v, u) => exact ⟨v, u, rfl, by cases h; rfl⟩

theorem writeDone_cases {t : State} {a : Result State} (h : writeDone a = .next t) :
    ∃ u, a = .ok u ∧ t = withOut u .nothing := by
  match a with
  | .error e => exact absurd h (stopped_ne_next _ _)
  | .ok u => exact ⟨u, rfl, by cases h; rfl⟩

theorem setX_cases {i : BitVec 5} {v : Word} {s t : State} (h : setX i v s = .ok t) :
    s.ctx.xs = .aarch64 ∧ t = writeX s i v := by
  unfold setX at h
  split at h
  · cases h
  · next hxs => exact ⟨by simpa using hxs, by cases h; rfl⟩

theorem setR_cases {i : BitVec 4} {v : BitVec 32} {s t : State} (h : setR i v s = .ok t) :
    s.ctx.xs = .aarch32 ∧ i ≠ 15 ∧ t = writeR s i v := by
  unfold setR at h
  split at h
  · cases h
  next hxs =>
  split at h
  · cases h
  next hi =>
  exact ⟨by simpa using hxs, hi, by cases h; rfl⟩

/-- A step that completes ran the first item of the caller's list: an operation, or an instruction the word decodes
to. -/
theorem step_cases {s t : State} (h : step s = .next t) :
    ∃ p rest, s.pending = p :: rest ∧
      ((∃ w i, p = .word w ∧ decode s.ctx.xs w = .ok i ∧ exec i (taken rest s) = .next t) ∨
        (∃ o, p = .op o ∧ runOp o (taken rest s) = .next t)) := by
  unfold step runNext at h
  split at h
  · cases h
  next p rest hp =>
  refine ⟨p, rest, hp, ?_⟩
  match p with
  | .op o => exact .inr ⟨o, rfl, h⟩
  | .word w =>
    simp only [runPending, runWord] at h
    split at h
    · cases h
    · next i hi => exact .inl ⟨w, i, rfl, hi, h⟩

/-! ### The count of values drawn (R15, R25) -/

@[simp] theorem rdCell_draws (c : Cell) (m : Word) (s : State) : (rdCell c m s).2.draws = s.draws + 1 := by
  unfold rdCell; split <;> rfl

theorem wrCell_draws_le (c : Cell) (m v : Word) (s : State) : s.draws ≤ (wrCell c m v s).draws := by
  unfold wrCell
  split
  · exact Nat.le_refl _
  · exact Nat.le_succ _

theorem readLoc_draws_lt (aw : AccessWidth) (s : State) (l : Loc) : s.draws < (readLoc aw s l).2.draws := by
  unfold readLoc
  split <;> simp

theorem writeLoc_draws_le (v : Word) (s : State) (l : Loc) : s.draws ≤ (writeLoc v s l).draws := by
  unfold writeLoc
  split <;> exact wrCell_draws_le _ _ _ _

theorem rd64_draws_lt {x : A64Reg} {s t : State} {v : Word} (h : rd64 x s = .ok (v, t)) : s.draws < t.draws := by
  obtain ⟨-, ⟨-, hp⟩ | ⟨-, hp⟩⟩ := rd64_cases h
  · cases hp; simp
  · obtain rfl : t = (rdCell (.s64 x) (mask 63 0) s).2 := congrArg Prod.snd hp
    simp

theorem wr64_draws_le {x : A64Reg} {v : Word} {s t : State} (h : wr64 x v s = .ok t) : s.draws ≤ t.draws := by
  obtain ⟨-, -, rfl⟩ := wr64_cases h
  exact wrCell_draws_le _ _ _ _

theorem rd32_draws_lt {r : A32Reg} {aw : AccessWidth} {s t : State} {v : AccessVal} (h : rd32 r aw s = .ok (v, t)) :
    s.draws < t.draws := by
  obtain ⟨-, l, -, hp⟩ := rd32_cases h
  obtain rfl : t = (readLoc aw s l).2 := congrArg Prod.snd hp
  exact readLoc_draws_lt aw s l

theorem wr32_draws_le {r : A32Reg} {v : AccessVal} {s t : State} (h : wr32 r v s = .ok t) : s.draws ≤ t.draws := by
  obtain ⟨-, l, -, rfl⟩ := wr32_cases h
  exact writeLoc_draws_le _ _ _

theorem exec_mrs_draws_lt {sel : Sel64} {rt : BitVec 5} {s t : State} (h : exec (.mrs sel rt) s = .next t) :
    s.draws < t.draws := by
  obtain ⟨-, x, v, u, -, hr, rfl⟩ := execMrs_cases h
  simpa using rd64_draws_lt hr

theorem exec_mrc_draws_lt {sel : Sel32} {rt : BitVec 4} {s t : State} (h : exec (.mrc sel rt) s = .next t) :
    s.draws < t.draws := by
  obtain ⟨-, -, r, v, u, -, hr, rfl⟩ := execMrc_cases h
  simpa using rd32_draws_lt hr

theorem exec_mrrc_draws_lt {sel : Sel32x64} {rt rt2 : BitVec 4} {s t : State}
    (h : exec (.mrrc sel rt rt2) s = .next t) : s.draws < t.draws := by
  obtain ⟨-, -, r, v, u, -, hr, rfl⟩ := execMrrc_cases h
  simpa using rd32_draws_lt hr

theorem runOp_rd64_draws_lt {x : Option A64Reg} {s t : State} (h : runOp (.rd64 x) s = .next t) :
    s.draws < t.draws := by
  cases x with
  | none => cases h
  | some x =>
    obtain ⟨v, u, hr, rfl⟩ := readDone_cases h
    simpa using rd64_draws_lt hr

theorem runOp_rd32_draws_lt {r : Option A32Reg} {aw : AccessWidth} {s t : State}
    (h : runOp (.rd32 r aw) s = .next t) : s.draws < t.draws := by
  cases r with
  | none => cases h
  | some r =>
    obtain ⟨v, u, hr, rfl⟩ := readDone_cases h
    simpa using rd32_draws_lt hr

theorem exec_draws_le {i : Instr} {s t : State} (h : exec i s = .next t) : s.draws ≤ t.draws := by
  cases i with
  | mrs sel rt => exact (exec_mrs_draws_lt h).le
  | mrc sel rt => exact (exec_mrc_draws_lt h).le
  | mrrc sel rt rt2 => exact (exec_mrrc_draws_lt h).le
  | msr sel rt =>
    obtain ⟨-, x, v, -, -, hw⟩ := execMsr_cases h
    exact wr64_draws_le hw
  | mcr sel rt =>
    obtain ⟨-, -, r, v, -, -, hw⟩ := execMcr_cases h
    exact wr32_draws_le hw
  | mcrr sel rt rt2 =>
    obtain ⟨-, -, r, v, -, -, hw⟩ := execMcrr_cases h
    exact wr32_draws_le hw

theorem runOp_draws_le {o : HostOp} {s t : State} (h : runOp o s = .next t) : s.draws ≤ t.draws := by
  match o with
  | .resolveState none | .resolveEL none | .wr64 none _ | .wr32 none _ => cases h
  | .resolveState (some g) | .resolveEL (some f) =>
    obtain ⟨b, -, rfl⟩ := answered_cases h
    exact Nat.le_refl _
  | .rd64 x => exact (runOp_rd64_draws_lt h).le
  | .rd32 r aw => exact (runOp_rd32_draws_lt h).le
  | .wr64 (some x) v =>
    obtain ⟨u, hw, rfl⟩ := writeDone_cases h
    simpa using wr64_draws_le hw
  | .wr32 (some r) v =>
    obtain ⟨u, hw, rfl⟩ := writeDone_cases h
    simpa using wr32_draws_le hw
  | .setCtx c =>
    obtain ⟨u, hu, rfl⟩ := writeDone_cases (a := .ok (setCtx c s)) h
    cases hu
    simp
  | .setX i v =>
    obtain ⟨u, hu, rfl⟩ := writeDone_cases h
    obtain ⟨-, rfl⟩ := setX_cases hu
    simp
  | .setR i v =>
    obtain ⟨u, hu, rfl⟩ := writeDone_cases h
    obtain ⟨-, -, rfl⟩ := setR_cases hu
    simp

theorem step_draws_le {s t : State} (h : step s = .next t) : s.draws ≤ t.draws := by
  obtain ⟨p, rest, -, ⟨w, i, -, -, hi⟩ | ⟨o, -, ho⟩⟩ := step_cases h
  · simpa using exec_draws_le hi
  · simpa using runOp_draws_le ho

/-! ### The Exception level and the Security state act through the parameters (R12, R603, R702) -/

/-- Every register is plain storage, and neither the access rights, nor footnote `a`, nor `RMRSel` tell two contexts
apart. -/
structure LevelBlind (cfg : Config) : Prop where
  plain : allPlain cfg
  access : ∀ c d r k, accessible cfg c r k = accessible cfg d r k
  footnote : ∀ c d r, footnoteA cfg r c = footnoteA cfg r d
  rmr : ∀ c d, rmrSel cfg c = rmrSel cfg d

/-- An outcome with its state, where it has one, at another level and in another Security state. -/
def outcomeAtLevel (el : EL) (ss : SecState) :
    Host.Outcome State Fault Refusal → Host.Outcome State Fault Refusal
  | .next t => .next (atLevel el ss t)
  | .fault f => .fault f
  | .refused r => .refused r

/-- A read's result with its state at another level and in another Security state. -/
def readAtLevel {α : Type} (el : EL) (ss : SecState) (p : α × State) : α × State := (p.1, atLevel el ss p.2)

@[simp] theorem outcomeAtLevel_next (el : EL) (ss : SecState) (t : State) :
    outcomeAtLevel el ss (.next t) = .next (atLevel el ss t) := rfl

@[simp] theorem outcomeAtLevel_refused (el : EL) (ss : SecState) (r : Refusal) :
    outcomeAtLevel el ss (.refused r) = .refused r := rfl

@[simp] theorem outcomeAtLevel_stopped (el : EL) (ss : SecState) (e : Stop) :
    outcomeAtLevel el ss (stopped e) = stopped e := by
  cases e <;> rfl

@[simp] theorem atLevel_cfg (el : EL) (ss : SecState) (s : State) : (atLevel el ss s).cfg = s.cfg := rfl

@[simp] theorem atLevel_xs (el : EL) (ss : SecState) (s : State) : (atLevel el ss s).ctx.xs = s.ctx.xs := rfl

@[simp] theorem readX_atLevel (el : EL) (ss : SecState) (s : State) (t : BitVec 5) :
    readX (atLevel el ss s) t = readX s t := readX_congr rfl t

@[simp] theorem readR_atLevel (el : EL) (ss : SecState) (s : State) (t : BitVec 4) :
    readR (atLevel el ss s) t = readR s t := readR_congr rfl t

@[simp] theorem readPair_atLevel (el : EL) (ss : SecState) (s : State) (t t2 : BitVec 4) :
    readPair (atLevel el ss s) t t2 = readPair s t t2 := by
  simp [readPair]

theorem writeX_atLevel (el : EL) (ss : SecState) (s : State) (t : BitVec 5) (v : Word) :
    writeX (atLevel el ss s) t v = atLevel el ss (writeX s t v) := by
  unfold writeX; split <;> rfl

theorem writeR_atLevel (el : EL) (ss : SecState) (s : State) (t : BitVec 4) (v : BitVec 32) :
    writeR (atLevel el ss s) t v = atLevel el ss (writeR s t v) := by
  unfold writeR; split <;> rfl

theorem writePair_atLevel (el : EL) (ss : SecState) (s : State) (t t2 : BitVec 4) (v : Word) :
    writePair (atLevel el ss s) t t2 v = atLevel el ss (writePair s t t2 v) := by
  simp only [writePair, writeR_atLevel]

section
variable {s : State} (el : EL) (ss : SecState) (h : LevelBlind s.cfg)
include h

/-- The checks of R702 see the level and the Security state through the access rights alone. -/
theorem accessStop_atLevel (r : RegName) (k : AccessKind) :
    accessStop s.cfg (atLevel el ss s).ctx r k = accessStop s.cfg s.ctx r k := by
  simp only [accessStop, atLevel_xs, h.access (atLevel el ss s).ctx s.ctx]

/-- The location of a register depends on the level and the Security state through footnote `a` and `RMRSel` alone. -/
theorem locate_atLevel (r : A32Reg) (aw : AccessWidth) :
    locate s.cfg (atLevel el ss s).ctx r aw = locate s.cfg s.ctx r aw := by
  simp only [locate, rowOf, h.footnote (atLevel el ss s).ctx s.ctx, h.rmr (atLevel el ss s).ctx s.ctx]

theorem rdCell_atLevel (c : Cell) (m : Word) : rdCell c m (atLevel el ss s) = readAtLevel el ss (rdCell c m s) := by
  have hc := allPlain_behaviour h.plain c
  rw [rdCell_plain m hc, rdCell_plain m (s := atLevel el ss s) hc]
  rfl

theorem wrCell_atLevel (c : Cell) (m v : Word) : wrCell c m v (atLevel el ss s) = atLevel el ss (wrCell c m v s) := by
  have hc := allPlain_behaviour h.plain c
  rw [wrCell_plain m v hc, wrCell_plain m v (s := atLevel el ss s) hc]
  rfl

theorem readLoc_atLevel (aw : AccessWidth) (l : Loc) :
    readLoc aw (atLevel el ss s) l = readAtLevel el ss (readLoc aw s l) := by
  simp only [readLoc, rdCell_atLevel el ss h]
  split <;> rfl

theorem writeLoc_atLevel (v : Word) (l : Loc) : writeLoc v (atLevel el ss s) l = atLevel el ss (writeLoc v s l) := by
  simp only [writeLoc, wrCell_atLevel el ss h]
  split <;> rfl

theorem rd64_atLevel (x : A64Reg) : rd64 x (atLevel el ss s) = (rd64 x s).map (readAtLevel el ss) := by
  simp only [rd64, atLevel_cfg, accessStop_atLevel el ss h, rdCell_atLevel el ss h]
  split
  · rfl
  · split <;> rfl

theorem wr64_atLevel (x : A64Reg) (v : Word) : wr64 x v (atLevel el ss s) = (wr64 x v s).map (atLevel el ss) := by
  simp only [wr64, atLevel_cfg, accessStop_atLevel el ss h, wrCell_atLevel el ss h]
  split
  · rfl
  · split <;> rfl

theorem rd32_atLevel (r : A32Reg) (aw : AccessWidth) :
    rd32 r aw (atLevel el ss s) = (rd32 r aw s).map (readAtLevel el ss) := by
  simp only [rd32, atLevel_cfg, accessStop_atLevel el ss h, locate_atLevel el ss h, readLoc_atLevel el ss h]
  split
  · rfl
  · split <;> rfl

theorem wr32_atLevel (r : A32Reg) (v : AccessVal) :
    wr32 r v (atLevel el ss s) = (wr32 r v s).map (atLevel el ss) := by
  simp only [wr32, atLevel_cfg, accessStop_atLevel el ss h, locate_atLevel el ss h, writeLoc_atLevel el ss h]
  split
  · rfl
  · split <;> rfl

theorem execMrs_atLevel (sel : Sel64) (rt : BitVec 5) :
    execMrs sel rt (atLevel el ss s) = outcomeAtLevel el ss (execMrs sel rt s) := by
  simp only [execMrs, atLevel_xs, atLevel_cfg, rd64_atLevel el ss h]
  split
  · rfl
  split
  · rfl
  next x _ =>
  cases rd64 x s <;> simp [Except.map, readAtLevel, writeX_atLevel]

theorem execMsr_atLevel (sel : Sel64) (rt : BitVec 5) :
    execMsr sel rt (atLevel el ss s) = outcomeAtLevel el ss (execMsr sel rt s) := by
  simp only [execMsr, atLevel_xs, atLevel_cfg, readX_atLevel, wr64_atLevel el ss h]
  split
  · rfl
  split
  · rfl
  next x _ =>
  split
  · rfl
  next v _ =>
  cases wr64 x v s <;> simp [Except.map]

theorem execMrc_atLevel (sel : Sel32) (rt : BitVec 4) :
    execMrc sel rt (atLevel el ss s) = outcomeAtLevel el ss (execMrc sel rt s) := by
  simp only [execMrc, atLevel_xs, atLevel_cfg, rd32_atLevel el ss h]
  split
  · rfl
  split
  · rfl
  split
  · rfl
  next r _ =>
  cases rd32 r .w32 s <;> simp [Except.map, readAtLevel, writeR_atLevel]

theorem execMcr_atLevel (sel : Sel32) (rt : BitVec 4) :
    execMcr sel rt (atLevel el ss s) = outcomeAtLevel el ss (execMcr sel rt s) := by
  simp only [execMcr, atLevel_xs, atLevel_cfg, readR_atLevel, wr32_atLevel el ss h]
  split
  · rfl
  split
  · rfl
  split
  · rfl
  next r _ =>
  split
  · rfl
  next v _ =>
  cases wr32 r (.b32 v) s <;> simp [Except.map]

theorem execMrrc_atLevel (sel : Sel32x64) (rt rt2 : BitVec 4) :
    execMrrc sel rt rt2 (atLevel el ss s) = outcomeAtLevel el ss (execMrrc sel rt rt2 s) := by
  simp only [execMrrc, atLevel_xs, atLevel_cfg, rd32_atLevel el ss h]
  split
  · rfl
  split
  · rfl
  split
  · rfl
  next r _ =>
  cases rd32 r .w64 s <;> simp [Except.map, readAtLevel, writePair_atLevel]

theorem execMcrr_atLevel (sel : Sel32x64) (rt rt2 : BitVec 4) :
    execMcrr sel rt rt2 (atLevel el ss s) = outcomeAtLevel el ss (execMcrr sel rt rt2 s) := by
  simp only [execMcrr, atLevel_xs, atLevel_cfg, readPair_atLevel, wr32_atLevel el ss h]
  split
  · rfl
  split
  · rfl
  split
  · rfl
  next r _ =>
  split
  · rfl
  next v _ =>
  cases wr32 r (.b64 v) s <;> simp [Except.map]

/-- An instruction and a move to another level and Security state commute. -/
theorem exec_atLevel (i : Instr) : exec i (atLevel el ss s) = outcomeAtLevel el ss (exec i s) := by
  cases i with
  | mrs sel rt => exact execMrs_atLevel el ss h sel rt
  | msr sel rt => exact execMsr_atLevel el ss h sel rt
  | mrc sel rt => exact execMrc_atLevel el ss h sel rt
  | mcr sel rt => exact execMcr_atLevel el ss h sel rt
  | mrrc sel rt rt2 => exact execMrrc_atLevel el ss h sel rt rt2
  | mcrr sel rt rt2 => exact execMcrr_atLevel el ss h sel rt rt2

end

/-! ### The statements -/

/-- Settles O38: step 1 of R702 decides alone, and each name has the range of its family. -/
theorem indexOutOfRangeRefused : Obligations.IndexOutOfRangeRefused := by
  unfold Obligations.IndexOutOfRangeRefused
  refine ⟨fun s r k h => accessStop_of_index s.ctx k h, fun s x v h => ?_, fun s r aw v h => ?_, fun cfg x n => ?_,
    fun cfg r n => ?_⟩
  · exact ⟨rd64_of_stop (accessStop_of_index s.ctx .read h), wr64_of_stop v (accessStop_of_index s.ctx .write h)⟩
  · exact ⟨rd32_of_stop aw (accessStop_of_index s.ctx .read h), wr32_of_stop v (accessStop_of_index s.ctx .write h)⟩
  · rw [← count_indexKind64 cfg x]; rfl
  · rw [← count_indexKind32 cfg r]; rfl

/-- Settles O40: step 7 of R702, for each operation through the checks before it. -/
theorem deniedAccessRefused : Obligations.DeniedAccessRefused := by
  unfold Obligations.DeniedAccessRefused
  refine ⟨fun s r k hidx hstate hund h32 himpl hdtr hacc =>
    accessStop_of_denied hidx hstate hund h32 himpl hdtr hacc, ?_, ?_⟩
  · intro s x v hxs hidx hund hdtr
    have hstop (k : AccessKind) (hacc : accessible s.cfg s.ctx (.a64 x) k = false) :
        accessStop s.cfg s.ctx (.a64 x) k = some (.refusal .accessNotPermitted) :=
      accessStop_of_denied hidx hxs.symm hund nofun rfl hdtr hacc
    exact ⟨fun hacc => rd64_of_stop (hstop .read hacc), fun hacc => wr64_of_stop v (hstop .write hacc)⟩
  · intro s r aw v hxs hidx hany himpl hdtr
    have hstop (k : AccessKind) (hacc : accessible s.cfg s.ctx (.a32 r) k = false) :
        accessStop s.cfg s.ctx (.a32 r) k = some (.refusal .accessNotPermitted) :=
      accessStop_of_denied hidx hxs.symm rfl (fun _ => hany) himpl hdtr hacc
    exact ⟨fun hacc => rd32_of_stop aw (hstop .read hacc), fun hacc => wr32_of_stop v (hstop .write hacc)⟩

/-- Settles O15: every read draws at least once, and nothing else lowers the count. -/
theorem drawsAreFresh : Obligations.DrawsAreFresh := by
  unfold Obligations.DrawsAreFresh
  exact ⟨fun _ _ => step_draws_le, fun _ _ _ _ => exec_mrs_draws_lt, fun _ _ _ _ => exec_mrc_draws_lt,
    fun _ _ _ _ _ => exec_mrrc_draws_lt, fun _ _ _ => runOp_rd64_draws_lt, fun _ _ _ _ => runOp_rd32_draws_lt⟩

/-- Settles O27, from `exec_atLevel`: the three kinds of outcome are carried over. -/
theorem levelActsOnlyThroughParameters : Obligations.LevelActsOnlyThroughParameters := by
  unfold Obligations.LevelActsOnlyThroughParameters
  intro i s el ss hplain hacc hfoot hrmr
  have hexec := exec_atLevel el ss ⟨hplain, hacc, hfoot, hrmr⟩ i
  exact ⟨fun t h => by rw [hexec, h]; rfl, fun f h => by rw [hexec, h]; rfl, fun r h => by rw [hexec, h]; rfl⟩

end Sys2Proof.Machine
end

section
/-! ## State: the inventory, the invariant, and what a step leaves alone

The statements of 10_state.md: the names and cells (R21, R24, R35), the registers of R23 and R27, the relation of R26,
and what every step keeps (R20, R22, R24, R38). -/

namespace Sys2Proof.Machine

/-! ### The inventory of names (R21, R35) -/

/-- The AArch64 names stand in the list in the order of their numbers. -/
theorem a64Name_all_map_ctorIdx : A64Name.all.map A64Name.ctorIdx = List.range 260 := by decide +kernel

/-- The AArch32 names stand in the list in the order of their numbers. -/
theorem a32Name_all_map_ctorIdx : A32Name.all.map A32Name.ctorIdx = List.range 192 := by decide +kernel

theorem a64Name_all_nodup : A64Name.all.Nodup :=
  List.Nodup.of_map A64Name.ctorIdx (a64Name_all_map_ctorIdx ▸ List.nodup_range)

theorem a32Name_all_nodup : A32Name.all.Nodup :=
  List.Nodup.of_map A32Name.ctorIdx (a32Name_all_map_ctorIdx ▸ List.nodup_range)

theorem mem_a64Name_all (x : A64Name) : x ∈ A64Name.all :=
  List.mem_map.2 ⟨x.ctorIdx, List.mem_range.2 (a64Name_ctorIdx_lt x), A64Name.ofNat_ctorIdx x⟩

theorem mem_a32Name_all (r : A32Name) : r ∈ A32Name.all :=
  List.mem_map.2 ⟨r.ctorIdx, List.mem_range.2 (a32Name_ctorIdx_lt r), A32Name.ofNat_ctorIdx r⟩

/-! ### The data transfer registers (R27) -/

/-- Step 6 of R702: a member of `DTRSet` that no earlier check stops. -/
theorem accessStop_of_dtr {cfg : Config} {ctx : Ctx} {r : RegName} (k : AccessKind) (hidx : indexOk cfg r = true)
    (hstate : nameState r = ctx.xs) (hund : isUndefined cfg r = false)
    (h32 : nameState r = .aarch32 → cfg.anyELCanUseAArch32 = true) (himpl : notImplemented cfg r = false)
    (hdtr : inDTRSet r = true) : accessStop cfg ctx r k = some (.refusal .dataTransferRegister) := by
  have hlevel : ¬ (nameState r = .aarch32 ∧ cfg.anyELCanUseAArch32 = false) := fun ⟨hn, hf⟩ => by
    simp [h32 hn] at hf
  rw [accessStop, if_neg (by simp [hidx]), if_neg (by simp [hstate]), if_neg (by simp [hund]), if_neg hlevel,
    if_neg (by simp [himpl]), if_pos hdtr]

/-- The AArch64 members of `DTRSet` have no index and are not of Table K14-6. -/
theorem inDTRSet64_single {n : A64Name} (h : inDTRSet64 n = true) :
    indexKind64 n = .single ∧ inTableK14_6 n = false := by
  unfold inDTRSet64 at h
  split at h <;> simp_all [indexKind64, inTableK14_6]

/-- The AArch32 members of `DTRSet` have no index and are not printed "if implemented". -/
theorem inDTRSet32_single {n : A32Name} (h : inDTRSet32 n = true) (cfg : Config) :
    indexKind32 n = .single ∧ notImplemented cfg (.a32 n.reg) = false := by
  unfold inDTRSet32 at h
  split at h <;> simp_all [indexKind32, notImplemented, A32Name.reg]

theorem accessStop_dtr64 {n : A64Name} {s : State} (k : AccessKind) (h : inDTRSet64 n = true)
    (hxs : s.ctx.xs = .aarch64) : accessStop s.cfg s.ctx (.a64 n.reg) k = some (.refusal .dataTransferRegister) := by
  obtain ⟨hkind, h6⟩ := inDTRSet64_single h
  exact accessStop_of_dtr k (by simp [indexOk, A64Name.reg, hkind, IndexKind.count]) hxs.symm
    (by simp [isUndefined, A64Name.reg, h6]) nofun rfl h

theorem accessStop_dtr32 {n : A32Name} {s : State} (k : AccessKind) (h : inDTRSet32 n = true)
    (hxs : s.ctx.xs = .aarch32) (hany : s.cfg.anyELCanUseAArch32 = true) :
    accessStop s.cfg s.ctx (.a32 n.reg) k = some (.refusal .dataTransferRegister) := by
  obtain ⟨hkind, himpl⟩ := inDTRSet32_single h s.cfg
  exact accessStop_of_dtr k (by simp [indexOk, A32Name.reg, hkind, IndexKind.count]) hxs.symm rfl (fun _ => hany)
    himpl h

/-! ### Where `RMR` is stored (R23, R708) -/

theorem locate_of_row_error {cfg : Config} {ctx : Ctx} {r : A32Reg} {aw : AccessWidth} {e : Refusal}
    (h : rowOf cfg ctx r.name = .error e) : locate cfg ctx r aw = .error e := by
  simp [locate, h]

/-- The row `RMRSel` gives is the low half of its register: `RMR` carries no footnote `a` and has width 32. -/
theorem locate_rmr_of_row {cfg : Config} {ctx : Ctx} {x : A64Name}
    (h : rowOf cfg ctx .RMR = .ok (some (x, .low32))) :
    locate cfg ctx A32Name.RMR.reg .w32 = .ok (.view (.s64 x.reg) 31 0 true false) := by
  have hfoot : footnoteA cfg .RMR ctx = true := rfl
  simp [locate, A32Name.reg, A64Name.reg, h, hfoot, RangeForm.need, RangeForm.bits, RangeForm.shifted, AccessWidth.bits]

/-! ### Registers that may share bits (R26) -/

/-- A pair of different cells in the least relation may share bits, whatever the caller adds. -/
theorem mayShare_of_leastShare (cfg : Config) {c d : Cell} (hne : c ≠ d) (h : leastShare c d = true) :
    mayShare cfg c d = true := by
  simp [mayShare, hne, h]

theorem mayShare_comm (cfg : Config) (c d : Cell) : mayShare cfg c d = mayShare cfg d c := by
  rw [mayShare, mayShare, bne_comm, Bool.or_comm (leastShare c d), Bool.or_assoc,
    Bool.or_comm (cfg.mayShareMore.contains (c, d)), ← Bool.or_assoc]

theorem mayShare_self (cfg : Config) (c : Cell) : mayShare cfg c c = false := by
  simp [mayShare]

/-! ### What a completed instruction or operation leaves alone (R20, R38, R711) -/

/-- An instruction that completes keeps the parameters, the context, the caller's list and the output. -/
theorem exec_frame {i : Instr} {s t : State} (h : exec i s = .next t) :
    t.cfg = s.cfg ∧ t.ctx = s.ctx ∧ t.pending = s.pending ∧ t.out = s.out := by
  cases i with
  | mrs sel rt =>
    obtain ⟨-, x, v, u, -, hr, rfl⟩ := execMrs_cases h
    obtain ⟨hcfg, hctx, -, -, hpend, hout⟩ := rd64_onlyCells hr
    simpa using ⟨hcfg, hctx, hpend, hout⟩
  | msr sel rt =>
    obtain ⟨-, x, v, -, -, hw⟩ := execMsr_cases h
    obtain ⟨hcfg, hctx, -, -, hpend, hout⟩ := wr64_onlyCells hw
    exact ⟨hcfg, hctx, hpend, hout⟩
  | mrc sel rt =>
    obtain ⟨-, -, r, v, u, -, hr, rfl⟩ := execMrc_cases h
    obtain ⟨hcfg, hctx, -, -, hpend, hout⟩ := rd32_onlyCells hr
    simpa using ⟨hcfg, hctx, hpend, hout⟩
  | mcr sel rt =>
    obtain ⟨-, -, r, v, -, -, hw⟩ := execMcr_cases h
    obtain ⟨hcfg, hctx, -, -, hpend, hout⟩ := wr32_onlyCells hw
    exact ⟨hcfg, hctx, hpend, hout⟩
  | mrrc sel rt rt2 =>
    obtain ⟨-, -, r, v, u, -, hr, rfl⟩ := execMrrc_cases h
    obtain ⟨hcfg, hctx, -, -, hpend, hout⟩ := rd32_onlyCells hr
    simpa using ⟨hcfg, hctx, hpend, hout⟩
  | mcrr sel rt rt2 =>
    obtain ⟨-, -, r, v, -, -, hw⟩ := execMcrr_cases h
    obtain ⟨hcfg, hctx, -, -, hpend, hout⟩ := wr32_onlyCells hw
    exact ⟨hcfg, hctx, hpend, hout⟩

/-- A write of two operands leaves every other alone. -/
theorem readR_writePair_ne (s : State) (t t2 u : BitVec 4) (v : Word) (h : u ≠ t) (h2 : u ≠ t2) :
    readR (writePair s t t2 v) u = readR s u := by
  rw [writePair, readR_writeR_ne _ _ _ _ h2, readR_writeR_ne _ _ _ _ h]

/-- An operation that completes keeps the parameters and the caller's list, and the context unless it is `SETCTX`. -/
theorem runOp_frame {o : HostOp} {s t : State} (h : runOp o s = .next t) :
    t.cfg = s.cfg ∧ t.pending = s.pending ∧ (t.ctx = s.ctx ∨ ∃ c, o = .setCtx c ∧ t.ctx = c) := by
  match o with
  | .resolveState none | .resolveEL none | .rd64 none | .wr64 none _ | .rd32 none _ | .wr32 none _ => cases h
  | .resolveState (some g) | .resolveEL (some f) =>
    obtain ⟨b, -, rfl⟩ := answered_cases h
    exact ⟨rfl, rfl, .inl rfl⟩
  | .rd64 (some x) =>
    obtain ⟨v, u, hr, rfl⟩ := readDone_cases h
    obtain ⟨hcfg, hctx, -, -, hpend, -⟩ := rd64_onlyCells hr
    exact ⟨hcfg, hpend, .inl hctx⟩
  | .rd32 (some r) aw =>
    obtain ⟨v, u, hr, rfl⟩ := readDone_cases h
    obtain ⟨hcfg, hctx, -, -, hpend, -⟩ := rd32_onlyCells hr
    exact ⟨hcfg, hpend, .inl hctx⟩
  | .wr64 (some x) v =>
    obtain ⟨u, hw, rfl⟩ := writeDone_cases h
    obtain ⟨hcfg, hctx, -, -, hpend, -⟩ := wr64_onlyCells hw
    exact ⟨hcfg, hpend, .inl hctx⟩
  | .wr32 (some r) v =>
    obtain ⟨u, hw, rfl⟩ := writeDone_cases h
    obtain ⟨hcfg, hctx, -, -, hpend, -⟩ := wr32_onlyCells hw
    exact ⟨hcfg, hpend, .inl hctx⟩
  | .setCtx c =>
    obtain ⟨u, hu, rfl⟩ := writeDone_cases (a := .ok (setCtx c s)) h
    cases hu
    exact ⟨setCtx_cfg c s, setCtx_pending c s, .inr ⟨c, rfl, setCtx_ctx c s⟩⟩
  | .setX i v =>
    obtain ⟨u, hu, rfl⟩ := writeDone_cases h
    obtain ⟨-, rfl⟩ := setX_cases hu
    simp
  | .setR i v =>
    obtain ⟨u, hu, rfl⟩ := writeDone_cases h
    obtain ⟨-, -, rfl⟩ := setR_cases hu
    simp

/-! ### The invariant is kept by every step (R22, R24, R27, R38) -/

/-- The invariant speaks of the parameters and the cells alone. -/
theorem StateOk.congr {s t : State} (h : StateOk s) (hcfg : t.cfg = s.cfg) (hregs : t.regs = s.regs) : StateOk t := by
  rw [StateOk, hcfg, hregs]
  exact h

theorem exec_inv {i : Instr} {s t : State} (hs : StateOk s) (h : exec i s = .next t) : StateOk t := by
  cases i with
  | mrs sel rt =>
    obtain ⟨-, x, v, u, -, hr, rfl⟩ := execMrs_cases h
    exact (rd64_inv hs hr).congr (writeX_cfg _ _ _) (writeX_regs _ _ _)
  | msr sel rt =>
    obtain ⟨-, x, v, -, -, hw⟩ := execMsr_cases h
    exact wr64_inv hs hw
  | mrc sel rt =>
    obtain ⟨-, -, r, v, u, -, hr, rfl⟩ := execMrc_cases h
    exact (rd32_inv hs hr).congr (writeR_cfg _ _ _) (writeR_regs _ _ _)
  | mcr sel rt =>
    obtain ⟨-, -, r, v, -, -, hw⟩ := execMcr_cases h
    exact wr32_inv hs hw
  | mrrc sel rt rt2 =>
    obtain ⟨-, -, r, v, u, -, hr, rfl⟩ := execMrrc_cases h
    exact (rd32_inv hs hr).congr (writePair_cfg _ _ _ _) (writePair_regs _ _ _ _)
  | mcrr sel rt rt2 =>
    obtain ⟨-, -, r, v, -, -, hw⟩ := execMcrr_cases h
    exact wr32_inv hs hw

theorem runOp_inv {o : HostOp} {s t : State} (hs : StateOk s) (h : runOp o s = .next t) : StateOk t := by
  match o with
  | .resolveState none | .resolveEL none | .rd64 none | .wr64 none _ | .rd32 none _ | .wr32 none _ => cases h
  | .resolveState (some g) | .resolveEL (some f) =>
    obtain ⟨b, -, rfl⟩ := answered_cases h
    exact hs
  | .rd64 (some x) =>
    obtain ⟨v, u, hr, rfl⟩ := readDone_cases h
    exact (rd64_inv hs hr).congr rfl rfl
  | .rd32 (some r) aw =>
    obtain ⟨v, u, hr, rfl⟩ := readDone_cases h
    exact (rd32_inv hs hr).congr rfl rfl
  | .wr64 (some x) v =>
    obtain ⟨u, hw, rfl⟩ := writeDone_cases h
    exact (wr64_inv hs hw).congr rfl rfl
  | .wr32 (some r) v =>
    obtain ⟨u, hw, rfl⟩ := writeDone_cases h
    exact (wr32_inv hs hw).congr rfl rfl
  | .setCtx c =>
    obtain ⟨u, hu, rfl⟩ := writeDone_cases (a := .ok (setCtx c s)) h
    cases hu
    exact hs.congr (setCtx_cfg c s) (setCtx_regs c s)
  | .setX i v =>
    obtain ⟨u, hu, rfl⟩ := writeDone_cases h
    obtain ⟨-, rfl⟩ := setX_cases hu
    exact hs.congr (writeX_cfg _ _ _) (writeX_regs _ _ _)
  | .setR i v =>
    obtain ⟨u, hu, rfl⟩ := writeDone_cases h
    obtain ⟨-, -, rfl⟩ := setR_cases hu
    exact hs.congr (writeR_cfg _ _ _) (writeR_regs _ _ _)

theorem step_inv {s t : State} (hs : StateOk s) (h : step s = .next t) : StateOk t := by
  obtain ⟨p, rest, -, ⟨w, i, -, -, hi⟩ | ⟨o, -, ho⟩⟩ := step_cases h
  · exact exec_inv (s := taken rest s) hs hi
  · exact runOp_inv (s := taken rest s) hs ho

/-! ### The statements about single steps and single names -/

/-- Settles O12, from `step_inv`. -/
theorem stepKeepsInvariant : Obligations.StepKeepsInvariant := by
  unfold Obligations.StepKeepsInvariant
  exact fun _ _ => step_inv

/-- Settles O13: the item taken is the one the step ran, and of the items only `SETCTX` changes the context. -/
theorem onlySetCtxChangesContext : Obligations.OnlySetCtxChangesContext := by
  unfold Obligations.OnlySetCtxChangesContext
  intro s t h
  obtain ⟨p, rest, hp, ⟨w, i, -, -, hi⟩ | ⟨o, rfl, ho⟩⟩ := step_cases h
  · obtain ⟨hcfg, hctx, hpend, -⟩ := exec_frame hi
    exact ⟨hcfg, p, hpend ▸ hp, .inl hctx⟩
  · obtain ⟨hcfg, hpend, hctx⟩ := runOp_frame ho
    exact ⟨hcfg, .op o, hpend ▸ hp, hctx.imp_right fun ⟨c, ho, hc⟩ => ⟨c, by rw [ho], hc⟩⟩

/-- Settles O26: `exec_frame`, and the operands through what each instruction says when it completes. -/
theorem instructionFrame : Obligations.InstructionFrame := by
  unfold Obligations.InstructionFrame
  intro i s t h
  obtain ⟨hcfg, hctx, hpend, hout⟩ := exec_frame h
  refine ⟨hcfg, hctx, hpend, hout, ?_⟩
  cases i with
  | mrs sel rt =>
    obtain ⟨-, x, v, u, -, hr, rfl⟩ := execMrs_cases h
    obtain ⟨-, -, hx, hr, -, -⟩ := rd64_onlyCells hr
    exact ⟨by simpa using hr, fun w hw => by rw [readX_writeX_ne _ _ _ _ hw, readX_congr hx]⟩
  | msr sel rt =>
    obtain ⟨-, x, v, -, -, hw⟩ := execMsr_cases h
    obtain ⟨-, -, hx, hr, -, -⟩ := wr64_onlyCells hw
    exact ⟨hr, hx⟩
  | mrc sel rt =>
    obtain ⟨-, -, r, v, u, -, hr, rfl⟩ := execMrc_cases h
    obtain ⟨-, -, hx, hr, -, -⟩ := rd32_onlyCells hr
    exact ⟨by simpa using hx, fun w hw => by rw [readR_writeR_ne _ _ _ _ hw, readR_congr hr]⟩
  | mcr sel rt =>
    obtain ⟨-, -, r, v, -, -, hw⟩ := execMcr_cases h
    obtain ⟨-, -, hx, hr, -, -⟩ := wr32_onlyCells hw
    exact ⟨hr, hx⟩
  | mrrc sel rt rt2 =>
    obtain ⟨-, -, r, v, u, -, hr, rfl⟩ := execMrrc_cases h
    obtain ⟨-, -, hx, hr, -, -⟩ := rd32_onlyCells hr
    exact ⟨by simpa using hx, fun w hw hw2 => by rw [readR_writePair_ne _ _ _ _ _ hw hw2, readR_congr hr]⟩
  | mcrr sel rt rt2 =>
    obtain ⟨-, -, r, v, -, -, hw⟩ := execMcrr_cases h
    obtain ⟨-, -, hx, hr, -, -⟩ := wr32_onlyCells hw
    exact ⟨hr, hx⟩

/-- Settles O11: no cell is listed after reset. -/
theorem resetState : Obligations.ResetState := by
  unfold Obligations.ResetState
  exact ⟨⟨⟨.nil, nofun⟩, nofun⟩, fun c => congrArg Entry.known (cellGet_nil c)⟩

/-- Settles O41: step 6 of R702, for each operation through the checks before it. -/
theorem dataTransferRegistersRefused : Obligations.DataTransferRegistersRefused := by
  unfold Obligations.DataTransferRegistersRefused
  refine ⟨fun s n v h hxs => ?_, fun s n aw v h hxs hany => ?_⟩
  · exact ⟨rd64_of_stop (accessStop_dtr64 .read h hxs), wr64_of_stop v (accessStop_dtr64 .write h hxs)⟩
  · exact ⟨rd32_of_stop aw (accessStop_dtr32 .read h hxs hany),
      wr32_of_stop v (accessStop_dtr32 .write h hxs hany)⟩

/-- Settles O44: each value of `RMRSel` gives a row, or none. -/
theorem rmrFollowsRmrSel : Obligations.RmrFollowsRmrSel := by
  unfold Obligations.RmrFollowsRmrSel
  intro cfg ctx
  match hsel : rmrSel cfg ctx with
  | some .el1 => exact locate_rmr_of_row (by simp [rowOf, hsel])
  | some .el3 => exact locate_rmr_of_row (by simp [rowOf, hsel])
  | none => exact locate_of_row_error (by simp [rowOf, hsel, A32Name.reg])

/-- Settles O48: each list is in the order of the names' numbers, and the counts are evaluated. -/
theorem inventoryCounts : Obligations.InventoryCounts := by
  unfold Obligations.InventoryCounts
  refine ⟨by simp [A64Name.all], a64Name_all_nodup, mem_a64Name_all, by simp [A32Name.all], a32Name_all_nodup,
    mem_a32Name_all, ?_, ?_, ?_, rfl, rfl⟩
  · decide +kernel
  · decide +kernel
  · decide +kernel

/-- Settles O53: both parts of the least relation hold between different cells. -/
theorem mayShareLeastRelation : Obligations.MayShareLeastRelation := by
  unfold Obligations.MayShareLeastRelation
  refine ⟨mayShare_comm, mayShare_self, fun cfg m n hm hn hne => ?_, fun cfg r x n hx => ?_⟩
  · refine mayShare_of_leastShare cfg (fun h => hne ?_) (by simp [leastShare, A64Name.reg, hm, hn])
    simpa [A64Name.reg] using h
  · exact mayShare_of_leastShare cfg nofun (by simp [leastShare, hx])

end Sys2Proof.Machine
end

section
/-! ## State: bits without a settled value never show (R25, R703)

Two states that differ only in stored bits without a settled value are carried side by side through every operation:
each gives the same stop in both, or the same value and two states that again differ only in such bits. -/

namespace Sys2Proof.Machine

/-! ### Entries that agree on their settled bits -/

theorem sameEntry_refl (e : Entry) : sameEntry e e := ⟨rfl, rfl⟩

/-- A read shows the settled bits, and the draw in every other place. -/
theorem sameEntry.mix_eq {e f : Entry} (h : sameEntry e f) (u : Word) :
    mix e.known e.val u = mix f.known f.val u := by
  obtain ⟨hknown, hval⟩ := h
  rw [mix, mix, hval, hknown]

theorem sameEntry.plainWrite {e f : Entry} (h : sameEntry e f) (m v : Word) :
    sameEntry (plainWrite e m v) (plainWrite f m v) := by
  obtain ⟨hknown, hval⟩ := h
  refine ⟨by simp [Machine.plainWrite, hknown], ?_⟩
  simp only [Machine.plainWrite, hknown] at hval ⊢
  ext i hi
  have hbit : (e.val[i] && f.known[i]) = (f.val[i] && f.known[i]) := by
    simpa using congrArg (·[i]) hval
  simp only [mix, BitVec.getElem_and, BitVec.getElem_or, BitVec.getElem_not]
  cases m[i]
  · simpa using hbit
  · simp

/-- Where no bit is settled, any two entries agree. -/
theorem sameEntry_forgetEntry (e f : Entry) : sameEntry (forgetEntry e) (forgetEntry f) := by
  simp [sameEntry, forgetEntry]

/-- Fewer settled bits: what agreed before agrees on those that are left. -/
theorem sameEntry.known_and {e f : Entry} (h : sameEntry e f) (m : Word) :
    sameEntry { e with known := e.known &&& m } { f with known := f.known &&& m } := by
  obtain ⟨hknown, hval⟩ := h
  exact ⟨by simp [hknown], by simp only [← BitVec.and_assoc, hval]⟩

/-! ### States that differ only in bits without a settled value -/

/-- Such a state is the other one with another register file. -/
theorem sameSettled_iff {s t : State} :
    sameSettled s t ↔ ∃ rf, t = { s with regs := rf } ∧ ∀ c, sameEntry (cellGet s.regs c) (cellGet rf c) := by
  constructor
  · rintro ⟨hcfg, hctx, hx, hr, hdraws, hpend, hout, hregs⟩
    refine ⟨t.regs, ?_, hregs⟩
    rw [hcfg, hctx, hx, hr, hdraws, hpend, hout]
  · rintro ⟨rf, rfl, hregs⟩
    exact ⟨rfl, rfl, rfl, rfl, rfl, rfl, rfl, hregs⟩

theorem sameSettled_refl (s : State) : sameSettled s s :=
  sameSettled_iff.2 ⟨s.regs, rfl, fun _ => sameEntry_refl _⟩

section
variable {s t : State} (h : sameSettled s t)
include h

theorem sameSettled.cfg_eq : t.cfg = s.cfg := by
  obtain ⟨rf, rfl, -⟩ := sameSettled_iff.1 h
  rfl

theorem sameSettled.ctx_eq : t.ctx = s.ctx := by
  obtain ⟨rf, rfl, -⟩ := sameSettled_iff.1 h
  rfl

theorem sameSettled.draw_eq : draw t = draw s := by
  obtain ⟨rf, rfl, -⟩ := sameSettled_iff.1 h
  rfl

theorem sameSettled.pending_eq : t.pending = s.pending := by
  obtain ⟨rf, rfl, -⟩ := sameSettled_iff.1 h
  rfl

theorem sameSettled.readX_eq (i : BitVec 5) : readX t i = readX s i := by
  obtain ⟨rf, rfl, -⟩ := sameSettled_iff.1 h
  rfl

theorem sameSettled.readR_eq (i : BitVec 4) : readR t i = readR s i := by
  obtain ⟨rf, rfl, -⟩ := sameSettled_iff.1 h
  rfl

theorem sameSettled.readPair_eq (i j : BitVec 4) : readPair t i j = readPair s i j := by
  rw [readPair, readPair, h.readR_eq, h.readR_eq]

theorem sameSettled.entry (c : Cell) : sameEntry (cellGet s.regs c) (cellGet t.regs c) := by
  obtain ⟨rf, rfl, hregs⟩ := sameSettled_iff.1 h
  exact hregs c

end

/-- An update that does not touch the register file keeps the relation. -/
theorem sameSettled.update {s t : State} (f : State → State) (h : sameSettled s t)
    (hf : ∀ u rf, f { u with regs := rf } = { f u with regs := rf }) : sameSettled (f s) (f t) := by
  obtain ⟨rf, rfl, hregs⟩ := sameSettled_iff.1 h
  have hs : (f s).regs = s.regs := (congrArg State.regs (hf s s.regs) :)
  exact sameSettled_iff.2 ⟨rf, hf s rf, by rwa [hs]⟩

theorem sameSettled.drawn {s t : State} (h : sameSettled s t) : sameSettled (drawn s) (drawn t) :=
  h.update Machine.drawn fun _ _ => rfl

theorem sameSettled.withOut {s t : State} (h : sameSettled s t) (o : Output) :
    sameSettled (withOut s o) (withOut t o) :=
  h.update (fun u => Machine.withOut u o) fun _ _ => rfl

theorem sameSettled.taken {s t : State} (h : sameSettled s t) (rest : List Pending) :
    sameSettled (taken rest s) (taken rest t) :=
  h.update (Machine.taken rest) fun _ _ => rfl

theorem sameSettled.writeX {s t : State} (h : sameSettled s t) (i : BitVec 5) (v : Word) :
    sameSettled (writeX s i v) (writeX t i v) :=
  h.update (fun u => Machine.writeX u i v) fun u rf => by unfold Machine.writeX; split <;> rfl

theorem sameSettled.writeR {s t : State} (h : sameSettled s t) (i : BitVec 4) (v : BitVec 32) :
    sameSettled (writeR s i v) (writeR t i v) :=
  h.update (fun u => Machine.writeR u i v) fun u rf => by unfold Machine.writeR; split <;> rfl

theorem sameSettled.writePair {s t : State} (h : sameSettled s t) (i j : BitVec 4) (v : Word) :
    sameSettled (writePair s i j v) (writePair t i j v) :=
  (h.writeR i _).writeR j _

theorem sameSettled.setCtx {s t : State} (h : sameSettled s t) (c : Ctx) : sameSettled (setCtx c s) (setCtx c t) :=
  h.update (Machine.setCtx c) fun u rf => by unfold Machine.setCtx; split <;> rfl

/-! ### Answers and outcomes that agree -/

theorem sameOutcome_refl (o : Host.Outcome State Fault Refusal) : sameOutcome o o := by
  cases o with
  | next s => exact sameSettled_refl s
  | fault f => rfl
  | refused r => rfl

/-- Two answers are the same stop, or related results. -/
def sameAnswer {α : Type} (same : α → α → Prop) (a b : Result α) : Prop :=
  (∃ e, a = .error e ∧ b = .error e) ∨ ∃ p q, a = .ok p ∧ b = .ok q ∧ same p q

/-- Two reads gave the same value, and states that differ only in bits without a settled value. -/
def sameRead {α : Type} (p q : α × State) : Prop := p.1 = q.1 ∧ sameSettled p.2 q.2

theorem sameAnswer.error {α : Type} {same : α → α → Prop} (e : Stop) : sameAnswer same (.error e) (.error e) :=
  .inl ⟨e, rfl, rfl⟩

theorem sameAnswer.ok {α : Type} {same : α → α → Prop} {p q : α} (h : same p q) :
    sameAnswer same (.ok p) (.ok q) :=
  .inr ⟨p, q, rfl, rfl, h⟩

theorem readDone_same {α : Type} {a b : Result (α × State)} (f : α → AccessVal) (h : sameAnswer sameRead a b) :
    sameOutcome (readDone f a) (readDone f b) := by
  obtain ⟨e, rfl, rfl⟩ | ⟨⟨v, u⟩, ⟨w, u'⟩, rfl, rfl, hv, hu⟩ := h
  · exact sameOutcome_refl _
  · obtain rfl : v = w := hv
    exact hu.withOut _

theorem writeDone_same {a b : Result State} (h : sameAnswer sameSettled a b) :
    sameOutcome (writeDone a) (writeDone b) := by
  obtain ⟨e, rfl, rfl⟩ | ⟨u, u', rfl, rfl, hu⟩ := h
  · exact sameOutcome_refl _
  · exact hu.withOut _

theorem answered_same {α : Type} {s t : State} (h : sameSettled s t) (f : α → Output) (a : Result α) :
    sameOutcome (answered s f a) (answered t f a) := by
  match a with
  | .error e => exact sameOutcome_refl _
  | .ok b => exact h.withOut _

/-! ### The operations on two such states, every register plain storage (R703) -/

section
variable {s t : State} (hs : StateOk s) (ht : StateOk t) (hplain : allPlain s.cfg) (h : sameSettled s t)

section
include hplain h

theorem rdCell_same (c : Cell) (m : Word) : sameRead (rdCell c m s) (rdCell c m t) := by
  have hc := allPlain_behaviour hplain c
  rw [rdCell_plain m hc, rdCell_plain m (h.cfg_eq ▸ hc), h.draw_eq]
  exact ⟨(h.entry c).mix_eq _, h.drawn⟩

theorem readLoc_same (aw : AccessWidth) (l : Loc) : sameRead (readLoc aw s l) (readLoc aw t l) := by
  obtain ⟨hv, hu⟩ := rdCell_same hplain h l.cell (mask l.hi l.lo)
  unfold readLoc
  split
  · exact ⟨by simp only [hv], hu⟩
  · exact ⟨by simp only [hv, hu.draw_eq], hu.drawn⟩

theorem rd64_same (x : A64Reg) : sameAnswer sameRead (rd64 x s) (rd64 x t) := by
  rw [rd64, rd64, h.cfg_eq, h.ctx_eq]
  split
  · exact .error _
  split
  · exact .ok ⟨h.draw_eq.symm, h.drawn⟩
  · exact .ok (rdCell_same hplain h _ _)

theorem rd32_same (r : A32Reg) (aw : AccessWidth) : sameAnswer sameRead (rd32 r aw s) (rd32 r aw t) := by
  rw [rd32, rd32, h.cfg_eq, h.ctx_eq]
  split
  · exact .error _
  split
  · exact .error _
  · exact .ok (readLoc_same hplain h aw _)

end

theorem forgetUpper_same (h : sameSettled s t) (c : Cell) : sameSettled (forgetUpper c s) (forgetUpper c t) := by
  obtain ⟨rf, rfl, hregs⟩ := sameSettled_iff.1 h
  refine sameSettled_iff.2 ⟨_, rfl, fun d => ?_⟩
  simp only [forgetUpper, cellGet_set]
  split
  · exact (hregs c).known_and _
  · exact hregs d

include hs ht hplain h

theorem wrCell_same (c : Cell) (m v : Word) : sameSettled (wrCell c m v s) (wrCell c m v t) := by
  have hc := allPlain_behaviour hplain c
  obtain ⟨rf, rfl, hregs⟩ := sameSettled_iff.1 h
  have hget := cellGet_wrCell m v hc hs.1
  have hget' := cellGet_wrCell (s := { s with regs := rf }) m v hc ht.1
  rw [wrCell_plain m v hc] at hget ⊢
  rw [wrCell_plain (s := { s with regs := rf }) m v hc] at hget' ⊢
  refine sameSettled_iff.2 ⟨_, rfl, fun d => ?_⟩
  rw [hget, hget']
  split
  · exact (hregs c).plainWrite m v
  split
  · exact sameEntry_forgetEntry _ _
  · exact hregs d

theorem writeLoc_same (v : Word) (l : Loc) : sameSettled (writeLoc v s l) (writeLoc v t l) := by
  have hcell := wrCell_same hs ht hplain h l.cell (mask l.hi l.lo) (v <<< l.shift)
  unfold writeLoc
  split
  · exact forgetUpper_same hcell l.cell
  · exact hcell

theorem wr64_same (x : A64Reg) (v : Word) : sameAnswer sameSettled (wr64 x v s) (wr64 x v t) := by
  rw [wr64, wr64, h.cfg_eq, h.ctx_eq]
  split
  · exact .error _
  split
  · exact .error _
  · exact .ok (wrCell_same hs ht hplain h _ _ _)

theorem wr32_same (r : A32Reg) (v : AccessVal) : sameAnswer sameSettled (wr32 r v s) (wr32 r v t) := by
  rw [wr32, wr32, h.cfg_eq, h.ctx_eq]
  split
  · exact .error _
  split
  · exact .error _
  · exact .ok (writeLoc_same hs ht hplain h _ _)

end

/-! ### The instructions and the caller's operations -/

section
variable {s t : State}

theorem setX_same (h : sameSettled s t) (i : BitVec 5) (v : Word) :
    sameAnswer sameSettled (setX i v s) (setX i v t) := by
  rw [setX, setX, h.ctx_eq]
  split
  · exact .error _
  · exact .ok (h.writeX i v)

theorem setR_same (h : sameSettled s t) (i : BitVec 4) (v : BitVec 32) :
    sameAnswer sameSettled (setR i v s) (setR i v t) := by
  rw [setR, setR, h.ctx_eq]
  split
  · exact .error _
  split
  · exact .error _
  · exact .ok (h.writeR i v)

section
variable (hplain : allPlain s.cfg) (h : sameSettled s t)
include hplain h

theorem execMrs_same (sel : Sel64) (rt : BitVec 5) : sameOutcome (execMrs sel rt s) (execMrs sel rt t) := by
  rw [execMrs, execMrs, h.cfg_eq, h.ctx_eq]
  split
  · exact sameOutcome_refl _
  split
  · exact sameOutcome_refl _
  next x _ =>
  obtain ⟨e, ha, hb⟩ | ⟨⟨v, u⟩, ⟨w, u'⟩, ha, hb, hv, hu⟩ := rd64_same hplain h x
  · rw [ha, hb]
    exact sameOutcome_refl _
  · obtain rfl : v = w := hv
    rw [ha, hb]
    exact hu.writeX rt v

theorem execMrc_same (sel : Sel32) (rt : BitVec 4) : sameOutcome (execMrc sel rt s) (execMrc sel rt t) := by
  rw [execMrc, execMrc, h.cfg_eq, h.ctx_eq]
  split
  · exact sameOutcome_refl _
  split
  · exact sameOutcome_refl _
  split
  · exact sameOutcome_refl _
  next r _ =>
  obtain ⟨e, ha, hb⟩ | ⟨⟨v, u⟩, ⟨w, u'⟩, ha, hb, hv, hu⟩ := rd32_same hplain h r .w32
  · rw [ha, hb]
    exact sameOutcome_refl _
  · obtain rfl : v = w := hv
    rw [ha, hb]
    exact hu.writeR rt _

theorem execMrrc_same (sel : Sel32x64) (rt rt2 : BitVec 4) :
    sameOutcome (execMrrc sel rt rt2 s) (execMrrc sel rt rt2 t) := by
  rw [execMrrc, execMrrc, h.cfg_eq, h.ctx_eq]
  split
  · exact sameOutcome_refl _
  split
  · exact sameOutcome_refl _
  split
  · exact sameOutcome_refl _
  next r _ =>
  obtain ⟨e, ha, hb⟩ | ⟨⟨v, u⟩, ⟨w, u'⟩, ha, hb, hv, hu⟩ := rd32_same hplain h r .w64
  · rw [ha, hb]
    exact sameOutcome_refl _
  · obtain rfl : v = w := hv
    rw [ha, hb]
    exact hu.writePair rt rt2 _

end

variable (hs : StateOk s) (ht : StateOk t) (hplain : allPlain s.cfg) (h : sameSettled s t)
include hs ht hplain h

theorem execMsr_same (sel : Sel64) (rt : BitVec 5) : sameOutcome (execMsr sel rt s) (execMsr sel rt t) := by
  rw [execMsr, execMsr, h.cfg_eq, h.ctx_eq, h.readX_eq]
  split
  · exact sameOutcome_refl _
  split
  · exact sameOutcome_refl _
  next x _ =>
  split
  · exact sameOutcome_refl _
  next v _ =>
  obtain ⟨e, ha, hb⟩ | ⟨u, u', ha, hb, hu⟩ := wr64_same hs ht hplain h x v
  · rw [ha, hb]
    exact sameOutcome_refl _
  · rw [ha, hb]
    exact hu

theorem execMcr_same (sel : Sel32) (rt : BitVec 4) : sameOutcome (execMcr sel rt s) (execMcr sel rt t) := by
  rw [execMcr, execMcr, h.cfg_eq, h.ctx_eq, h.readR_eq]
  split
  · exact sameOutcome_refl _
  split
  · exact sameOutcome_refl _
  split
  · exact sameOutcome_refl _
  next r _ =>
  split
  · exact sameOutcome_refl _
  next v _ =>
  obtain ⟨e, ha, hb⟩ | ⟨u, u', ha, hb, hu⟩ := wr32_same hs ht hplain h r (.b32 v)
  · rw [ha, hb]
    exact sameOutcome_refl _
  · rw [ha, hb]
    exact hu

theorem execMcrr_same (sel : Sel32x64) (rt rt2 : BitVec 4) :
    sameOutcome (execMcrr sel rt rt2 s) (execMcrr sel rt rt2 t) := by
  rw [execMcrr, execMcrr, h.cfg_eq, h.ctx_eq, h.readPair_eq]
  split
  · exact sameOutcome_refl _
  split
  · exact sameOutcome_refl _
  split
  · exact sameOutcome_refl _
  next r _ =>
  split
  · exact sameOutcome_refl _
  next v _ =>
  obtain ⟨e, ha, hb⟩ | ⟨u, u', ha, hb, hu⟩ := wr32_same hs ht hplain h r (.b64 v)
  · rw [ha, hb]
    exact sameOutcome_refl _
  · rw [ha, hb]
    exact hu

theorem exec_same (i : Instr) : sameOutcome (exec i s) (exec i t) := by
  cases i with
  | mrs sel rt => exact execMrs_same hplain h sel rt
  | msr sel rt => exact execMsr_same hs ht hplain h sel rt
  | mrc sel rt => exact execMrc_same hplain h sel rt
  | mcr sel rt => exact execMcr_same hs ht hplain h sel rt
  | mrrc sel rt rt2 => exact execMrrc_same hplain h sel rt rt2
  | mcrr sel rt rt2 => exact execMcrr_same hs ht hplain h sel rt rt2

theorem runOp_same (o : HostOp) : sameOutcome (runOp o s) (runOp o t) := by
  match o with
  | .resolveState none | .resolveEL none | .rd64 none | .wr64 none _ | .rd32 none _ | .wr32 none _ => rfl
  | .resolveState (some g) =>
    rw [runOp, runOp, h.ctx_eq]
    exact answered_same h _ _
  | .resolveEL (some f) =>
    rw [runOp, runOp, h.ctx_eq]
    exact answered_same h _ _
  | .rd64 (some x) => exact readDone_same _ (rd64_same hplain h x)
  | .rd32 (some r) aw => exact readDone_same _ (rd32_same hplain h r aw)
  | .wr64 (some x) v => exact writeDone_same (wr64_same hs ht hplain h x v)
  | .wr32 (some r) v => exact writeDone_same (wr32_same hs ht hplain h r v)
  | .setCtx c => exact writeDone_same (.ok (h.setCtx c))
  | .setX i v => exact writeDone_same (setX_same h i v)
  | .setR i v => exact writeDone_same (setR_same h i v)

theorem runPending_same (p : Pending) : sameOutcome (runPending p s) (runPending p t) := by
  match p with
  | .op o => exact runOp_same hs ht hplain h o
  | .word w =>
    rw [runPending, runPending, runWord, runWord, h.ctx_eq]
    split
    · exact sameOutcome_refl _
    · exact exec_same hs ht hplain h _

end

/-- Settles O14: both states take the same item off the list, and run it side by side. -/
theorem unsettledBitsNeverShow : Obligations.UnsettledBitsNeverShow := by
  unfold Obligations.UnsettledBitsNeverShow
  intro s t hs ht hplain h
  rw [step, step, runNext, runNext, h.pending_eq]
  match s.pending with
  | [] => rfl
  | p :: rest => exact runPending_same (s := taken rest s) (t := taken rest t) hs ht hplain (h.taken rest) p

end Sys2Proof.Machine
end

section
/-! ## Encoding: what decodes, and what a word's step does

The statements of 30_encoding.md. One equivalence per Execution state says which words decode and to what (R77 to R80);
the fields read from an encoded word (Laws/Encode) and the word put together from its fields then give both
directions of the round trip. -/

namespace Sys2Proof.Machine

/-! ### Bit patterns -/

/-- Two patterns that differ where both masks are set have no word in common. -/
theorem and_ne_of_and_eq {n : Nat} {w m a m' a' : BitVec n} (h : w &&& m = a) (hne : a &&& m' ≠ a' &&& m) :
    w &&& m' ≠ a' := by
  rintro rfl
  rw [← h] at hne
  exact hne (by ac_rfl)

/-- A word that matches an A64 pattern has 1101 in the place of the condition field (R78, R80). -/
theorem cond_of_sysreg64 {w a : InstrWord} (h : w &&& 0xFFF00000#32 = a) :
    w.extractLsb' 28 4 = a.extractLsb' 28 4 := by
  rw [← h, BitVec.extractLsb'_and]
  exact (BitVec.and_allOnes).symm

theorem condAlways_eq_false_iff {cond : BitVec 4} : condAlways cond = false ↔ cond ≠ 14 := by
  simp [condAlways]

/-! ### Which words decode (R79, R80) -/

/-- The decoder of AArch64 state: the two patterns of R72. -/
theorem decode_aarch64_ok_iff {w : InstrWord} {i : Instr} :
    decode .aarch64 w = .ok i ↔
      (w &&& 0xFFF00000#32 = 0xD5300000#32 ∧ i = .mrs (sel64Of w) (w.extractLsb' 0 5)) ∨
      (w &&& 0xFFF00000#32 = 0xD5100000#32 ∧ i = .msr (sel64Of w) (w.extractLsb' 0 5)) := by
  simp only [decode, decodeA64]
  split
  case isTrue hmrs => simp [hmrs, eq_comm]
  case isFalse hmrs =>
    split
    case isTrue hmsr => simp [hmsr, eq_comm]
    case isFalse hmsr => simp [hmrs, hmsr]

/-- A condition field other than 1110 is refused before the pattern is looked at (R78). -/
theorem decode_aarch32_of_cond_ne {w : InstrWord} (h : w.extractLsb' 28 4 ≠ 14) :
    decode .aarch32 w = .error .condNotAlways := by
  rw [decode, decodeA32, if_pos (condAlways_eq_false_iff.mpr h)]

/-- The decoder of AArch32 state: the four patterns of R73 and R74, less the register numbers of R77. -/
theorem decode_aarch32_ok_iff {w : InstrWord} {i : Instr} :
    decode .aarch32 w = .ok i ↔
      w.extractLsb' 28 4 = 14 ∧
      ((w &&& 0x0F100010#32 = 0x0E100010#32 ∧ w.extractLsb' 12 4 ≠ 15 ∧
          i = .mrc (sel32Of w) (w.extractLsb' 12 4)) ∨
        (w &&& 0x0F100010#32 = 0x0E000010#32 ∧ w.extractLsb' 12 4 ≠ 15 ∧
          i = .mcr (sel32Of w) (w.extractLsb' 12 4)) ∨
        (w &&& 0x0FF00000#32 = 0x0C500000#32 ∧
          ¬ (w.extractLsb' 12 4 = 15 ∨ w.extractLsb' 16 4 = 15 ∨ w.extractLsb' 12 4 = w.extractLsb' 16 4) ∧
          i = .mrrc (sel32x64Of w) (w.extractLsb' 12 4) (w.extractLsb' 16 4)) ∨
        (w &&& 0x0FF00000#32 = 0x0C400000#32 ∧ ¬ (w.extractLsb' 12 4 = 15 ∨ w.extractLsb' 16 4 = 15) ∧
          i = .mcrr (sel32x64Of w) (w.extractLsb' 12 4) (w.extractLsb' 16 4))) := by
  constructor
  · intro h
    simp only [decode, decodeA32] at h
    split at h
    · cases h
    next hcond =>
    refine ⟨by simpa [condAlways_eq_false_iff] using hcond, ?_⟩
    split at h
    next hmrc =>
      split at h
      · cases h
      next hrt => exact .inl ⟨hmrc, hrt, by cases h; rfl⟩
    split at h
    next hmcr =>
      split at h
      · cases h
      next hrt => exact .inr (.inl ⟨hmcr, hrt, by cases h; rfl⟩)
    split at h
    next hmrrc =>
      split at h
      · cases h
      next hrt => exact .inr (.inr (.inl ⟨hmrrc, hrt, by cases h; rfl⟩))
    split at h
    next hmcrr =>
      split at h
      · cases h
      next hrt => exact .inr (.inr (.inr ⟨hmcrr, hrt, by cases h; rfl⟩))
    · cases h
  · rintro ⟨hcond, h⟩
    simp only [decode, decodeA32]
    rw [if_neg (by simp [condAlways_eq_false_iff, hcond])]
    obtain ⟨hrow, hrt, rfl⟩ | ⟨hrow, hrt, rfl⟩ | ⟨hrow, hrt, rfl⟩ | ⟨hrow, hrt, rfl⟩ := h
    · rw [if_pos hrow, if_neg hrt]
    · rw [if_neg (and_ne_of_and_eq hrow (by decide)), if_pos hrow, if_neg hrt]
    · rw [if_neg (and_ne_of_and_eq hrow (by decide)), if_neg (and_ne_of_and_eq hrow (by decide)), if_pos hrow,
        if_neg hrt]
    · rw [if_neg (and_ne_of_and_eq hrow (by decide)), if_neg (and_ne_of_and_eq hrow (by decide)),
        if_neg (and_ne_of_and_eq hrow (by decide)), if_pos hrow, if_neg hrt]

/-! ### A word put together from its fields (R72 to R74) -/

theorem sel64Of_wellFormed (w : InstrWord) : (sel64Of w).wellFormed = true := by
  simp only [Sel64.wellFormed, sel64Of, BitVec.getLsbD_append]
  simp

/-- A word that matches a pattern of R72 is the word of the fields read from it. -/
theorem encodeSysreg64_sel64Of {l : BitVec 1} {w : InstrWord}
    (h : w &&& 0xFFF00000#32 = 0b1101010100#10 ++ l ++ 1#1 ++ 0#20) :
    encodeSysreg64 l (sel64Of w) (w.extractLsb' 0 5) = w := by
  apply BitVec.eq_of_getLsbD_eq
  intro i hi
  have hbit := congrArg (BitVec.getLsbD · i) h
  simp only [BitVec.getLsbD_and, BitVec.getLsbD_append] at hbit
  simp only [encodeSysreg64, sel64Of, BitVec.getLsbD_append, BitVec.getLsbD_extractLsb']
  interval_cases i <;> simp_all

/-- The bits of an A32 word whose condition field is 1110 (R78). -/
theorem getLsbD_of_cond {w : InstrWord} (h : w.extractLsb' 28 4 = 14) :
    w.getLsbD 28 = false ∧ w.getLsbD 29 = true ∧ w.getLsbD 30 = true ∧ w.getLsbD 31 = true := by
  have hbit (i : Nat) := congrArg (BitVec.getLsbD · i) h
  simp only [BitVec.getLsbD_extractLsb'] at hbit
  exact ⟨by simpa using hbit 0, by simpa using hbit 1, by simpa using hbit 2, by simpa using hbit 3⟩

/-- A word with condition field 1110 that matches a pattern of R73 is the word of the fields read from it. -/
theorem encodeCp32_sel32Of {l : BitVec 1} {w : InstrWord} (hcond : w.extractLsb' 28 4 = 14)
    (h : w &&& 0x0F100010#32 = 0b00001110000#11 ++ l ++ 0#15 ++ 1#1 ++ 0#4) :
    encodeCp32 l (sel32Of w) (w.extractLsb' 12 4) = w := by
  obtain ⟨h28, h29, h30, h31⟩ := getLsbD_of_cond hcond
  apply BitVec.eq_of_getLsbD_eq
  intro i hi
  have hbit := congrArg (BitVec.getLsbD · i) h
  simp only [BitVec.getLsbD_and, BitVec.getLsbD_append] at hbit
  simp only [encodeCp32, sel32Of, BitVec.getLsbD_append, BitVec.getLsbD_extractLsb']
  interval_cases i <;> simp_all

/-- A word with condition field 1110 that matches a pattern of R74 is the word of the fields read from it. -/
theorem encodeCp64_sel32x64Of {l : BitVec 1} {w : InstrWord} (hcond : w.extractLsb' 28 4 = 14)
    (h : w &&& 0x0FF00000#32 = 0b00001100010#11 ++ l ++ 0#20) :
    encodeCp64 l (sel32x64Of w) (w.extractLsb' 12 4) (w.extractLsb' 16 4) = w := by
  obtain ⟨h28, h29, h30, h31⟩ := getLsbD_of_cond hcond
  apply BitVec.eq_of_getLsbD_eq
  intro i hi
  have hbit := congrArg (BitVec.getLsbD · i) h
  simp only [BitVec.getLsbD_and, BitVec.getLsbD_append] at hbit
  simp only [encodeCp64, sel32x64Of, BitVec.getLsbD_append, BitVec.getLsbD_extractLsb']
  interval_cases i <;> simp_all

/-! ### The statements about the decoder and the encoder -/

/-- Settles O2: the encoded word has its row's fixed bits (R79, R80), and every field is read back (R72 to R74). -/
theorem decodeOfEncode : Obligations.DecodeOfEncode := by
  unfold Obligations.DecodeOfEncode
  intro i hwf
  match i with
  | .mrs sel rt =>
    refine decode_aarch64_ok_iff.mpr (.inl ⟨Laws.EncodingFixedBits.mrs sel rt, ?_⟩)
    rw [encode, encodeSysreg64_sel _ _ _ hwf, encodeSysreg64_rt]
  | .msr sel rt =>
    refine decode_aarch64_ok_iff.mpr (.inr ⟨Laws.EncodingFixedBits.msr sel rt, ?_⟩)
    rw [encode, encodeSysreg64_sel _ _ _ hwf, encodeSysreg64_rt]
  | .mrc sel rt =>
    obtain ⟨hrt, hcond⟩ := encodeCp32_fields 1#1 sel rt
    refine decode_aarch32_ok_iff.mpr ⟨hcond, .inl ⟨Laws.EncodingFixedBits.mrc sel rt, ?_⟩⟩
    rw [encode, encodeCp32_sel, hrt]
    exact ⟨by simpa [Instr.wellFormed] using hwf, rfl⟩
  | .mcr sel rt =>
    obtain ⟨hrt, hcond⟩ := encodeCp32_fields 0#1 sel rt
    refine decode_aarch32_ok_iff.mpr ⟨hcond, .inr (.inl ⟨Laws.EncodingFixedBits.mcr sel rt, ?_⟩)⟩
    rw [encode, encodeCp32_sel, hrt]
    exact ⟨by simpa [Instr.wellFormed] using hwf, rfl⟩
  | .mrrc sel rt rt2 =>
    obtain ⟨hrt, hrt2, hcond⟩ := encodeCp64_fields 1#1 sel rt rt2
    refine decode_aarch32_ok_iff.mpr ⟨hcond, .inr (.inr (.inl ⟨Laws.EncodingFixedBits.mrrc sel rt rt2, ?_⟩))⟩
    rw [encode, encodeCp64_sel, hrt, hrt2]
    exact ⟨by simpa [Instr.wellFormed] using hwf, rfl⟩
  | .mcrr sel rt rt2 =>
    obtain ⟨hrt, hrt2, hcond⟩ := encodeCp64_fields 0#1 sel rt rt2
    refine decode_aarch32_ok_iff.mpr ⟨hcond, .inr (.inr (.inr ⟨Laws.EncodingFixedBits.mcrr sel rt rt2, ?_⟩))⟩
    rw [encode, encodeCp64_sel, hrt, hrt2]
    exact ⟨by simpa [Instr.wellFormed] using hwf, rfl⟩

/-- What the decoder reads is an instruction of the Execution state and has the word as its encoding (R72 to R80). -/
theorem encode_of_decode {xs : ExecState} {w : InstrWord} {i : Instr} (h : decode xs w = .ok i) :
    i.wellFormed = true ∧ i.execState = xs ∧ encode i = w := by
  match xs with
  | .aarch64 =>
    obtain ⟨hrow, rfl⟩ | ⟨hrow, rfl⟩ := decode_aarch64_ok_iff.mp h
    · exact ⟨sel64Of_wellFormed w, rfl, encodeSysreg64_sel64Of hrow⟩
    · exact ⟨sel64Of_wellFormed w, rfl, encodeSysreg64_sel64Of hrow⟩
  | .aarch32 =>
    obtain ⟨hcond, ⟨hrow, hrt, rfl⟩ | ⟨hrow, hrt, rfl⟩ | ⟨hrow, hrt, rfl⟩ | ⟨hrow, hrt, rfl⟩⟩ :=
      decode_aarch32_ok_iff.mp h
    · exact ⟨by simpa [Instr.wellFormed] using hrt, rfl, encodeCp32_sel32Of hcond hrow⟩
    · exact ⟨by simpa [Instr.wellFormed] using hrt, rfl, encodeCp32_sel32Of hcond hrow⟩
    · exact ⟨by simpa [Instr.wellFormed] using hrt, rfl, encodeCp64_sel32x64Of hcond hrow⟩
    · exact ⟨by simpa [Instr.wellFormed] using hrt, rfl, encodeCp64_sel32x64Of hcond hrow⟩

/-- Settles O3. -/
theorem encodeOfDecode : Obligations.EncodeOfDecode := by
  unfold Obligations.EncodeOfDecode
  exact fun _ _ _ => encode_of_decode

/-- Settles O4: of the patterns of the Execution state, the constructor picks one. -/
theorem opcodeMap : Obligations.OpcodeMap := by
  unfold Obligations.OpcodeMap
  intro w
  refine ⟨?mrs, ?msr, ?mrc, ?mcr, ?mrrc, ?mcrr⟩
  case mrs | msr => simp [decode_aarch64_ok_iff]
  case mrc | mcr | mrrc | mcrr => simp [decode_aarch32_ok_iff]

/-- Settles O5: both patterns of AArch64 state have 1101 in bits [31:28]. -/
theorem noWordDecodesInBothStates : Obligations.NoWordDecodesInBothStates := by
  unfold Obligations.NoWordDecodesInBothStates
  intro w i h
  apply decode_aarch32_of_cond_ne
  obtain ⟨hrow, -⟩ | ⟨hrow, -⟩ := decode_aarch64_ok_iff.mp h
  · rw [cond_of_sysreg64 hrow]; decide
  · rw [cond_of_sysreg64 hrow]; decide

/-- Settles O1: nine fixed words decoded, and six selectors looked up in setting T (R82, R76). -/
theorem workedEncodings : Obligations.WorkedEncodings := by
  unfold Obligations.WorkedEncodings
  refine ⟨?_, ?_, ?_, ?_, ?_, ?_, ?_, ?_, ?_, ?_, ?_, ?_, ?_, ?_, ?_⟩
  all_goals decide

/-- Settles O6. -/
theorem conditionFieldRefused : Obligations.ConditionFieldRefused := by
  unfold Obligations.ConditionFieldRefused
  exact fun _ => decode_aarch32_of_cond_ne

/-! ### The step of a word (R79, R700) -/

/-- A step whose next item is a word decodes it in the Execution state of the context. -/
theorem step_word {s : State} {w : InstrWord} {rest : List Pending} (h : s.pending = .word w :: rest) :
    step s = runWord w (taken rest s) := by
  rw [step, runNext, h]
  rfl

/-- Settles O7. -/
theorem stepRunsDecodedWord : Obligations.StepRunsDecodedWord := by
  unfold Obligations.StepRunsDecodedWord
  intro s w rest i hp hd
  obtain ⟨hwf, hxs, -⟩ := encode_of_decode hd
  refine ⟨hwf, hxs, ?_⟩
  rw [step_word hp, runWord, taken_ctx, hd]

/-- Settles O8. -/
theorem stepRefusesOtherWords : Obligations.StepRefusesOtherWords := by
  unfold Obligations.StepRefusesOtherWords
  intro s w rest e hp hd
  rw [step_word hp, runWord, taken_ctx, hd]

/-! ### What an instruction is refused for before the access (R77, R79) -/

/-- Settles O30: the register numbers are checked before the selector (R715 to R718). -/
theorem forbiddenNumbersRefused : Obligations.ForbiddenNumbersRefused := by
  unfold Obligations.ForbiddenNumbersRefused
  intro s hxs
  refine ⟨fun sel => ?mrc, fun sel => ?mcr, fun sel rt rt2 hrt => ?mrrc, fun sel rt rt2 hrt => ?mcrr⟩
  case mrc => rw [exec, execMrc, if_neg (not_not_intro hxs), if_pos rfl]
  case mcr => rw [exec, execMcr, if_neg (not_not_intro hxs), if_pos rfl]
  case mrrc => rw [exec, execMrrc, if_neg (not_not_intro hxs), if_pos hrt]
  case mcrr => rw [exec, execMcrr, if_neg (not_not_intro hxs), if_pos hrt]

/-- Settles O31: the selector is looked up before the operand is read and the register is accessed (R711). -/
theorem unsuppliedSelectorRefused : Obligations.UnsuppliedSelectorRefused := by
  unfold Obligations.UnsuppliedSelectorRefused
  refine ⟨fun s sel rt hxs hsel => ?sysreg64, fun s sel rt hxs hrt hsel => ?cp32,
    fun s sel rt rt2 hxs hrt hrt2 hne hsel => ?cp64⟩
  case sysreg64 =>
    constructor
    · rw [exec, execMrs, if_neg (not_not_intro hxs), hsel]
    · rw [exec, execMsr, if_neg (not_not_intro hxs), hsel]
  case cp32 =>
    constructor
    · rw [exec, execMrc, if_neg (not_not_intro hxs), if_neg hrt, hsel]
    · rw [exec, execMcr, if_neg (not_not_intro hxs), if_neg hrt, hsel]
  case cp64 =>
    constructor
    · rw [exec, execMrrc, if_neg (not_not_intro hxs), if_neg (by tauto), hsel]
    · rw [exec, execMcrr, if_neg (not_not_intro hxs), if_neg (by tauto), hsel]

end Sys2Proof.Machine
end

section
/-! ## Registers by Execution state: the empty cells of Tables K14-1 to K14-4, and what `RESOLVE_STATE` refuses

The filter of R704 drops only entries with a qualifier, and every cell that is not empty has an entry without one. -/

namespace Sys2Proof.Machine

/-! ### The entries of a cell (R100, R101) -/

/-- In the AArch64 column the first entry has no qualifier (R67). -/
theorem exists_unqualified_aarch64 (g : GeneralName) : ∃ e ∈ byState g .aarch64, e.qual = none := by
  cases g <;> exact ⟨_, .head _, rfl⟩

/-- In the AArch32 column three cells begin with a qualified entry (R142, R145, R146); their second entry has no
qualifier. -/
theorem exists_unqualified_aarch32 {g : GeneralName} (h : byState g .aarch32 ≠ []) :
    ∃ e ∈ byState g .aarch32, e.qual = none := by
  cases g with
  | CNTPS_CTL | CNTPS_CVAL | CNTPS_TVAL => exact absurd rfl h
  | SCTLR | SPSR | TCR => exact ⟨_, .tail _ (.head _), rfl⟩
  | _ => exact ⟨_, .head _, rfl⟩

theorem exists_unqualified_of_ne_nil {g : GeneralName} {xs : ExecState} (h : byState g xs ≠ []) :
    ∃ e ∈ byState g xs, e.qual = none := by
  cases xs with
  | aarch64 => exact exists_unqualified_aarch64 g
  | aarch32 => exact exists_unqualified_aarch32 h

theorem byState_aarch64_ne_nil (g : GeneralName) : byState g .aarch64 ≠ [] :=
  have ⟨_, he, _⟩ := exists_unqualified_aarch64 g
  List.ne_nil_of_mem he

theorem byState_aarch32_eq_nil_iff (g : GeneralName) :
    byState g .aarch32 = [] ↔ g = .CNTPS_CTL ∨ g = .CNTPS_CVAL ∨ g = .CNTPS_TVAL := by
  cases g with
  | CNTPS_CTL | CNTPS_CVAL | CNTPS_TVAL => exact iff_of_true rfl (by decide)
  | _ => exact iff_of_false (List.cons_ne_nil _ _) (by decide)

theorem byState_eq_nil_iff (g : GeneralName) (xs : ExecState) :
    byState g xs = [] ↔ xs = .aarch32 ∧ (g = .CNTPS_CTL ∨ g = .CNTPS_CVAL ∨ g = .CNTPS_TVAL) := by
  cases xs with
  | aarch64 => simp [byState_aarch64_ne_nil]
  | aarch32 => simp [byState_aarch32_eq_nil_iff]

/-! ### The filter on the Security state (R704) -/

theorem keepsSecurity_of_unqualified {e : RegRef} (h : e.qual = none) (ss : SecState) :
    keepsSecurity ss e = true := by
  simp [keepsSecurity, h]

theorem filter_keepsSecurity_byState_eq_nil_iff (g : GeneralName) (xs : ExecState) (ss : SecState) :
    (byState g xs).filter (keepsSecurity ss) = [] ↔ byState g xs = [] := by
  constructor
  · intro hfilter
    by_contra hne
    obtain ⟨e, he, hqual⟩ := exists_unqualified_of_ne_nil hne
    exact List.filter_eq_nil_iff.mp hfilter e he (keepsSecurity_of_unqualified hqual ss)
  · intro hnil
    rw [hnil, List.filter_nil]

theorem resolveState_eq_refuse_iff (g : GeneralName) (c : Ctx) :
    resolveState g c = refuse .noRegisterOfThisState ↔ (byState g c.xs).filter (keepsSecurity c.ss) = [] := by
  rw [resolveState, resolveStatePrinted]
  cases (byState g c.xs).filter (keepsSecurity c.ss) with
  | nil => simp
  | cons e l => simp [refuse]

/-! ### The statements -/

/-- Settles O57: column by column. -/
theorem onlyThreeEmptyCells : Obligations.OnlyThreeEmptyCells := by
  unfold Obligations.OnlyThreeEmptyCells
  exact byState_eq_nil_iff

/-- Settles O58: the filtered cell is empty exactly when the printed one is. -/
theorem resolveStateRefusesExactlyThree : Obligations.ResolveStateRefusesExactlyThree := by
  unfold Obligations.ResolveStateRefusesExactlyThree
  intro g c
  rw [resolveState_eq_refuse_iff, filter_keepsSecurity_byState_eq_nil_iff, byState_eq_nil_iff]

end Sys2Proof.Machine
end

section
/-! ## The rows of the general and timer groups: `MRC` and `MCR`, kept positions, narrowed rows, "or" rows

An access through a name of an AArch32 register is first located (R708); what a read and a write do then follows from
where the bits stand (R304, R305, R307, R709). -/

namespace Sys2Proof.Machine

/-! ### Where a name with one row is stored (R708) -/

/-- R708 for a name with one row, which rules out `RMR`; `PMCCNTR` alone has a further restriction (R712). -/
theorem locate_of_single_row {r : A32Name} {x : A64Name} {f : RangeForm} (cfg : Config) (ctx : Ctx) (aw : AccessWidth)
    (hrow : views r = [(x, f)]) (hpm : r ≠ .PMCCNTR) :
    locate cfg ctx r.reg aw =
      if footnoteA cfg r ctx = false then .error .footnoteA
      else if aw.bits ≠ f.need (w32 cfg r) then .error .widthMismatch
      else .ok (.view (.s64 x.reg) (f.bits (w32 cfg r)).1 (f.bits (w32 cfg r)).2 f.shifted (f == .narrowed)) := by
  have hrmr : r ≠ .RMR := by rintro rfl; cases hrow
  have hrowOf : rowOf cfg ctx r = .ok (some (x, f)) := by rw [rowOf, if_neg hrmr, hrow]; rfl
  simp only [locate, A32Name.reg, hrowOf, hpm, false_and, if_false]
  rfl

/-- Two names with the same row have the same storage where footnote `a` lets it apply to both or to neither. -/
theorem locate_eq_of_same_row {r q : A32Name} {x : A64Name} {f : RangeForm} {cfg : Config} {ctx : Ctx}
    (aw : AccessWidth) (hr : views r = [(x, f)]) (hq : views q = [(x, f)]) (hrpm : r ≠ .PMCCNTR) (hqpm : q ≠ .PMCCNTR)
    (hwidth : w32 cfg r = w32 cfg q) (hfoot : footnoteA cfg r ctx = footnoteA cfg q ctx) :
    locate cfg ctx r.reg aw = locate cfg ctx q.reg aw := by
  rw [locate_of_single_row cfg ctx aw hr hrpm, locate_of_single_row cfg ctx aw hq hqpm, hfoot, hwidth]

/-- A row that keeps positions and carries no footnote applies at the caller's width (R304, R10). -/
theorem locate_of_kept_row {r : A32Name} {x : A64Name} {hi lo : Nat} {cfg : Config} {aw : AccessWidth} (ctx : Ctx)
    (hrow : views r = [(x, .kept hi lo)]) (hpm : r ≠ .PMCCNTR) (hmark : carriesFootnoteA r = false)
    (hwidth : aw.bits = w32 cfg r) : locate cfg ctx r.reg aw = .ok (.view (.s64 x.reg) hi lo false false) := by
  have hfoot : footnoteA cfg r ctx = true := by simp [footnoteA, hmark]
  have hneed : ¬ aw.bits ≠ (RangeForm.kept hi lo).need (w32 cfg r) := not_not_intro hwidth
  rw [locate_of_single_row cfg ctx aw hrow hpm, if_neg (by simp [hfoot]), if_neg hneed]
  rfl

/-! ### The narrowed rows (R709, R383, R385, R388) -/

/-- A narrowed row is the only row of its name. -/
theorem views_of_narrowed {r : A32Name} {x : A64Name} (h : (x, .narrowed) ∈ views r) : views r = [(x, .narrowed)] := by
  cases r with
  | CNTHVS_TVAL | CNTHV_CTL | CNTHV_TVAL => exact (congrArg ([·]) (List.mem_singleton.1 h)).symm
  | _ => simp [views] at h

/-- A narrowed row is stored in the low half of its register, and marked. -/
theorem locate_narrowed {r : A32Name} {x : A64Name} {cfg : Config} {ctx : Ctx} {aw : AccessWidth} {l : Loc}
    (hrow : (x, .narrowed) ∈ views r) (h : locate cfg ctx r.reg aw = .ok l) :
    l = .view (.s64 x.reg) 31 0 true true := by
  have hpm : r ≠ .PMCCNTR := by rintro rfl; simp [views] at hrow
  rw [locate_of_single_row cfg ctx aw (views_of_narrowed hrow) hpm] at h
  split at h
  · cases h
  split at h
  · cases h
  · cases h; rfl

/-- No bit of the upper half stays settled, whatever the state before. -/
theorem settled_forgetUpper_upper (c : Cell) (s : State) : (settled (forgetUpper c s) c).extractLsb' 32 32 = 0 := by
  apply BitVec.eq_of_getLsbD_eq
  intro i hi
  have hmask : (mask 31 0).getLsbD (32 + i) = false := by
    have hi31 : ¬ 32 + i ≤ 31 := by omega
    simp [mask_getLsbD 31 0 (32 + i) (Nat.zero_le _), hi31]
  simp [settled, forgetUpper, hmask]

theorem writeLoc_of_narrowed {l : Loc} (v : Word) (s : State) (h : l.narrowed = true) :
    writeLoc v s l = forgetUpper l.cell (wrCell l.cell (mask l.hi l.lo) (v <<< l.shift) s) := by
  rw [writeLoc, if_pos h]

/-! ### `MRC` and `MCR` of a located register (R715, R716, R708, R709) -/

theorem rd32_of_locate {s : State} {r : A32Reg} {aw : AccessWidth} {l : Loc} (hp : passes s (.a32 r) .read)
    (hl : locate s.cfg s.ctx r aw = .ok l) : rd32 r aw s = .ok (readLoc aw s l) := by
  rw [rd32, hp, hl]

theorem wr32_of_locate {s : State} {r : A32Reg} {v : AccessVal} {l : Loc} (hp : passes s (.a32 r) .write)
    (hl : locate s.cfg s.ctx r v.width = .ok l) : wr32 r v s = .ok (writeLoc v.zext s l) := by
  rw [wr32, hp, hl]

theorem exec_mrc_of_locate {s : State} {sel : Sel32} {rt : BitVec 4} {r : A32Reg} {l : Loc}
    (hxs : s.ctx.xs = .aarch32) (hrt : rt ≠ 15) (hsel : selected s.cfg.sysRegSel32 sel = some r)
    (hp : passes s (.a32 r) .read) (hl : locate s.cfg s.ctx r .w32 = .ok l) :
    exec (.mrc sel rt) s =
      .next (writeR (readLoc .w32 s l).2 rt ((readLoc .w32 s l).1.zext.extractLsb' 0 32)) := by
  rw [exec, execMrc, if_neg (not_not_intro hxs), if_neg hrt, hsel]
  simp only [rd32_of_locate hp hl]

theorem exec_mcr_of_locate {s : State} {sel : Sel32} {rt : BitVec 4} {r : A32Reg} {l : Loc} {v : BitVec 32}
    (hxs : s.ctx.xs = .aarch32) (hrt : rt ≠ 15) (hsel : selected s.cfg.sysRegSel32 sel = some r)
    (hv : readR s rt = some v) (hp : passes s (.a32 r) .write) (hl : locate s.cfg s.ctx r .w32 = .ok l) :
    exec (.mcr sel rt) s = .next (writeLoc (v.setWidth 64) s l) := by
  have hw : wr32 r (.b32 v) s = .ok (writeLoc (v.setWidth 64) s l) := wr32_of_locate hp hl
  rw [exec, execMcr, if_neg (not_not_intro hxs), if_neg hrt, hsel]
  simp only [hv, hw]

/-! ### What a located access shows and draws under `PLAIN` (R703, R304) -/

/-- An access of width 32 shows its bits in the low half, which is all an operand takes (R715). -/
theorem showsBits_low_half {l : Loc} {s : State} {v : Word} (h : showsBits l .w32 s v) :
    showsBits l .w32 s ((v.extractLsb' 0 32).setWidth 64) := by
  intro i hlo hhi hbits hset
  have h32 : i - l.shift < 32 := hbits
  have h64 : i - l.shift < 64 := by omega
  rw [← h i hlo hhi hbits hset]
  simp [h32, h64]

/-- A `PLAIN` write draws no value. -/
theorem writeLoc_draws_plain {l : Loc} {s : State} (v : Word) (h : behaviour s.cfg l.cell = none) :
    (writeLoc v s l).draws = s.draws := by
  rw [writeLoc, wrCell_plain _ _ h]
  split <;> rfl

/-! ### The statements -/

/-- Settles O22: the state after is that of `RD32` with the low half of its value in the operand. -/
theorem mrcReadsSettledBits : Obligations.MrcReadsSettledBits := by
  unfold Obligations.MrcReadsSettledBits
  intro s sel rt r l hxs hrt hsel hp hl hplain
  obtain ⟨hshows, hregs⟩ := readLoc_shows .w32 hplain (locate_bits hl)
  obtain ⟨hcfg, hctx, hx, hr, hpend, hout⟩ := readLoc_onlyCells .w32 s l
  refine ⟨_, (readLoc .w32 s l).1.zext.extractLsb' 0 32, exec_mrc_of_locate hxs hrt hsel hp hl,
    readR_writeR_self _ _ _ hrt, showsBits_low_half hshows, fun u hu => ?_, ?_⟩
  · rw [readR_writeR_ne _ _ _ _ hu, readR_congr hr]
  · simpa using ⟨hx, hregs, hcfg, hctx, hpend, hout⟩

/-- Settles O23: the state after is that of `WR32`, whose effect on the cells is `writeLoc_wrote`. -/
theorem mcrWritesNamedBits : Obligations.McrWritesNamedBits := by
  unfold Obligations.McrWritesNamedBits
  intro s sel rt r l v hs hxs hrt hsel hv hp hl hplain
  exact ⟨_, exec_mcr_of_locate hxs hrt hsel hv hp hl, writeLoc_wrote _ hplain hs, writeLoc_onlyCells _ s l,
    writeLoc_draws_plain _ hplain⟩

/-- Settles O46: the mask is cut last, after the behaviour of the register has acted. -/
theorem narrowedRowsForgetUpperHalf : Obligations.NarrowedRowsForgetUpperHalf := by
  unfold Obligations.NarrowedRowsForgetUpperHalf
  intro s t r x v hrow hw
  obtain ⟨-, l, hl, rfl⟩ := wr32_cases hw
  obtain rfl := locate_narrowed hrow hl
  rw [writeLoc_of_narrowed _ _ rfl]
  exact settled_forgetUpper_upper _ _

/-- Settles O45: neither name carries footnote `a`, and the width the row needs is the caller's. -/
theorem keptPositionRows : Obligations.KeptPositionRows := by
  unfold Obligations.KeptPositionRows
  exact fun cfg ctx => ⟨fun hw => locate_of_kept_row ctx rfl nofun rfl hw.symm,
    fun hw => locate_of_kept_row ctx rfl nofun rfl hw.symm⟩

/-- Settles O47: the two names of a row have one range, and a printed half fixes the width of both at 32. -/
theorem orRowsAreSynonyms : Obligations.OrRowsAreSynonyms := by
  unfold Obligations.OrRowsAreSynonyms
  exact ⟨rfl, rfl, rfl, rfl, fun _ _ aw => ⟨locate_eq_of_same_row aw rfl rfl nofun nofun rfl,
    locate_eq_of_same_row aw rfl rfl nofun nofun rfl⟩⟩

end Sys2Proof.Machine
end

section
/-! ## The rows of the debug, performance monitors, activity monitors and RAS groups: where `PMCCNTR` is stored

The one row of these groups that names the instructions of its access is `PMCCNTR(MRC/MCR)` (R431). -/

namespace Sys2Proof.Machine

/-- The row of `PMCCNTR` is the low half of `PMCCNTR_EL0`, in every context (R431). -/
theorem rowOf_pmccntr (cfg : Config) (ctx : Ctx) :
    rowOf cfg ctx .PMCCNTR = .ok (some (.PMCCNTR_EL0, .low32)) := by
  have hrmr : A32Name.PMCCNTR ≠ .RMR := by decide
  rw [rowOf, if_neg hrmr]
  rfl

/-- R708 for `PMCCNTR`, which carries no footnote `a`: its qualifier shuts out the wide access (R712), and the narrow one
has the width the row needs. -/
theorem locate_pmccntr (cfg : Config) (ctx : Ctx) (aw : AccessWidth) :
    locate cfg ctx A32Name.PMCCNTR.reg aw =
      if aw = .w64 then .error .only32BitAccessMapped
      else .ok (.view (.s64 A64Name.PMCCNTR_EL0.reg) 31 0 true false) := by
  have hfoot : footnoteA cfg .PMCCNTR ctx = true := rfl
  simp only [locate, A32Name.reg, rowOf_pmccntr, hfoot]
  cases aw with
  | w32 => rfl
  | w64 => rfl

/-! ### The statement -/

/-- Settles O43: the two access widths of the one row. -/
theorem pmccntrOnlyByMrcMcr : Obligations.PmccntrOnlyByMrcMcr := by
  unfold Obligations.PmccntrOnlyByMrcMcr
  intro cfg ctx
  have hnarrow : AccessWidth.w32 ≠ .w64 := nofun
  exact ⟨(locate_pmccntr cfg ctx .w32).trans (if_neg hnarrow), (locate_pmccntr cfg ctx .w64).trans (if_pos rfl)⟩

end Sys2Proof.Machine
end

section
/-! ## The registers of AArch32 only, and the identification registers: the one fault, and the UNKNOWN reads

A register of Table K14-6 faults at the third check of R702 (R501, R800), before the access rights; a register of Table
K14-7 that is UNKNOWN passes the checks and is drawn (R505). -/

namespace Sys2Proof.Machine

/-! ### The check that faults (R501, R702 step 3) -/

/-- The names of Table K14-6 are printed without a placeholder (R64). -/
theorem indexKind64_of_inTableK14_6 {n : A64Name} (h : inTableK14_6 n = true) : indexKind64 n = .single := by
  unfold inTableK14_6 at h
  split at h
  case h_6 => cases h
  all_goals rfl

/-- A register of Table K14-6 is within its range at the index 0 alone. -/
theorem indexOk_iff_of_inTableK14_6 {x : A64Reg} (cfg : Config) (h : inTableK14_6 x.name = true) :
    indexOk cfg (.a64 x) = true ↔ x.idx = 0 := by
  simp [indexOk, indexKind64_of_inTableK14_6 h, IndexKind.count]

/-- Of the checks of R702 only the third faults, and only the first two come before it. -/
theorem accessStop_eq_fault_iff {cfg : Config} {ctx : Ctx} {r : RegName} {k : AccessKind} {f : Fault} :
    accessStop cfg ctx r k = some (.fault f) ↔
      indexOk cfg r = true ∧ nameState r = ctx.xs ∧ isUndefined cfg r = true := by
  constructor
  · intro h
    unfold accessStop at h
    split at h; · cases h
    next hidx =>
    split at h; · cases h
    next hstate =>
    split at h
    next hund => exact ⟨by simpa using hidx, by simpa using hstate, hund⟩
    next =>
      split at h; · cases h
      split at h; · cases h
      split at h; · cases h
      split at h <;> cases h
  · rintro ⟨hidx, hstate, hund⟩
    rw [accessStop, if_neg (by simp [hidx]), if_neg (not_not_intro hstate), if_pos hund]
    rfl

theorem accessStop_a64_eq_fault_iff {cfg : Config} {ctx : Ctx} {x : A64Reg} {k : AccessKind} {f : Fault} :
    accessStop cfg ctx (.a64 x) k = some (.fault f) ↔
      ctx.xs = .aarch64 ∧ cfg.el1CanUseAArch32 = false ∧ inTableK14_6 x.name = true ∧ x.idx = 0 := by
  simp only [accessStop_eq_fault_iff, nameState, isUndefined, Bool.and_eq_true, Bool.not_eq_true']
  constructor
  · rintro ⟨hidx, hxs, htab, hel1⟩
    exact ⟨hxs.symm, hel1, htab, (indexOk_iff_of_inTableK14_6 cfg htab).1 hidx⟩
  · rintro ⟨hxs, hel1, htab, hidx⟩
    exact ⟨(indexOk_iff_of_inTableK14_6 cfg htab).2 hidx, hxs.symm, htab, hel1⟩

/-- Table K14-6 holds no AArch32 register. -/
theorem accessStop_a32_ne_fault (cfg : Config) (ctx : Ctx) (r : A32Reg) (k : AccessKind) (f : Fault) :
    accessStop cfg ctx (.a32 r) k ≠ some (.fault f) := by
  intro h
  obtain ⟨-, -, hund⟩ := accessStop_eq_fault_iff.1 h
  cases hund

/-- Step 2 of R702 comes before every check but that of the index. -/
theorem accessStop_of_otherState {cfg : Config} {ctx : Ctx} {r : RegName} (k : AccessKind) (hidx : indexOk cfg r = true)
    (hstate : nameState r ≠ ctx.xs) : accessStop cfg ctx r k = some (.refusal .otherExecutionState) := by
  rw [accessStop, if_neg (by simp [hidx]), if_pos hstate]

/-! ### The operations that fault (R706 to R709, R800) -/

theorem rd64_eq_fault_iff {x : A64Reg} {s : State} {f : Fault} :
    rd64 x s = .error (.fault f) ↔ accessStop s.cfg s.ctx (.a64 x) .read = some (.fault f) := by
  refine ⟨fun h => ?_, rd64_of_stop⟩
  unfold rd64 at h
  split at h
  next hstop => rw [hstop]; cases h; rfl
  next => split at h <;> cases h

theorem wr64_eq_fault_iff {x : A64Reg} {v : Word} {s : State} {f : Fault} :
    wr64 x v s = .error (.fault f) ↔ accessStop s.cfg s.ctx (.a64 x) .write = some (.fault f) := by
  refine ⟨fun h => ?_, wr64_of_stop v⟩
  unfold wr64 at h
  split at h
  next hstop => rw [hstop]; cases h; rfl
  next => split at h <;> cases h

theorem rd32_ne_fault (r : A32Reg) (aw : AccessWidth) (s : State) (f : Fault) : rd32 r aw s ≠ .error (.fault f) := by
  intro h
  unfold rd32 at h
  split at h
  next hstop => cases h; exact accessStop_a32_ne_fault _ _ _ _ _ hstop
  next => split at h <;> cases h

theorem wr32_ne_fault (r : A32Reg) (v : AccessVal) (s : State) (f : Fault) : wr32 r v s ≠ .error (.fault f) := by
  intro h
  unfold wr32 at h
  split at h
  next hstop => cases h; exact accessStop_a32_ne_fault _ _ _ _ _ hstop
  next => split at h <;> cases h

/-! ### The instructions that fault (R713 to R718, R800) -/

theorem stopped_eq_fault_iff {e : Stop} {f : Fault} : stopped e = .fault f ↔ e = .fault f := by
  cases e <;> simp [stopped]

/-- The selector names a register of Table K14-6 that is UNDEFINED (R501). -/
def selectsUndefined (s : State) (sel : Sel64) : Prop :=
  s.ctx.xs = .aarch64 ∧ s.cfg.el1CanUseAArch32 = false ∧
    ∃ x, selected s.cfg.sysRegSel64 sel = some x ∧ inTableK14_6 x.name = true ∧ x.idx = 0

theorem exec_mrs_eq_fault_iff {sel : Sel64} {rt : BitVec 5} {s : State} {f : Fault} :
    exec (.mrs sel rt) s = .fault f ↔ selectsUndefined s sel := by
  constructor
  · intro h
    simp only [exec, execMrs] at h
    split at h; · cases h
    split at h; · cases h
    next x hsel =>
    split at h
    next e hr =>
      rw [stopped_eq_fault_iff.1 h, rd64_eq_fault_iff, accessStop_a64_eq_fault_iff] at hr
      obtain ⟨hxs, hel1, hx⟩ := hr
      exact ⟨hxs, hel1, x, hsel, hx⟩
    next => cases h
  · rintro ⟨hxs, hel1, x, hsel, hx⟩
    have hr : rd64 x s = .error (.fault f) := rd64_eq_fault_iff.2 (accessStop_a64_eq_fault_iff.2 ⟨hxs, hel1, hx⟩)
    rw [exec, execMrs, if_neg (not_not_intro hxs), hsel]
    simp only [hr, stopped]

/-- The operand is read before the register is accessed (R714). -/
theorem exec_msr_eq_fault_iff {sel : Sel64} {rt : BitVec 5} {s : State} {f : Fault} :
    exec (.msr sel rt) s = .fault f ↔ readX s rt ≠ none ∧ selectsUndefined s sel := by
  constructor
  · intro h
    simp only [exec, execMsr] at h
    split at h; · cases h
    split at h; · cases h
    next x hsel =>
    split at h; · cases h
    next v hv =>
    split at h
    next e hw =>
      rw [stopped_eq_fault_iff.1 h, wr64_eq_fault_iff, accessStop_a64_eq_fault_iff] at hw
      obtain ⟨hxs, hel1, hx⟩ := hw
      exact ⟨by simp [hv], hxs, hel1, x, hsel, hx⟩
    next => cases h
  · rintro ⟨hv, hxs, hel1, x, hsel, hx⟩
    obtain ⟨v, hv⟩ := Option.ne_none_iff_exists'.1 hv
    have hw : wr64 x v s = .error (.fault f) := wr64_eq_fault_iff.2 (accessStop_a64_eq_fault_iff.2 ⟨hxs, hel1, hx⟩)
    rw [exec, execMsr, if_neg (not_not_intro hxs), hsel]
    simp only [hv, hw, stopped]

/-- The instructions of AArch32 state access by `RD32` and `WR32`, which do not fault. -/
theorem exec_ne_fault_of_aarch32 {i : Instr} (h : i.execState = .aarch32) (s : State) (f : Fault) :
    exec i s ≠ .fault f := by
  intro hf
  cases i with
  | mrs | msr => cases h
  | mrc | mrrc =>
    simp only [exec, execMrc, execMrrc] at hf
    split at hf; · cases hf
    split at hf; · cases hf
    split at hf; · cases hf
    split at hf
    next e hr => exact rd32_ne_fault _ _ s f (stopped_eq_fault_iff.1 hf ▸ hr)
    next => cases hf
  | mcr | mcrr =>
    simp only [exec, execMcr, execMcrr] at hf
    split at hf; · cases hf
    split at hf; · cases hf
    split at hf; · cases hf
    split at hf; · cases hf
    split at hf
    next e hw => exact wr32_ne_fault _ _ s f (stopped_eq_fault_iff.1 hf ▸ hw)
    next => cases hf

/-! ### `RD64`, `WR64`, `MRS` and `MSR` of a register that passes the checks (R706, R707, R505) -/

theorem rd64_of_unknown {x : A64Reg} {s : State} (hp : passes s (.a64 x) .read) (hu : isUnknown s.cfg x = true) :
    rd64 x s = .ok (draw s, drawn s) := by
  rw [rd64, hp]
  exact if_pos hu

theorem rd64_of_not_unknown {x : A64Reg} {s : State} (hp : passes s (.a64 x) .read) (hu : isUnknown s.cfg x = false) :
    rd64 x s = .ok (rdCell (.s64 x) (mask 63 0) s) := by
  rw [rd64, hp]
  exact if_neg (by simp [hu])

theorem wr64_of_not_unknown {x : A64Reg} {s : State} (v : Word) (hp : passes s (.a64 x) .write)
    (hu : isUnknown s.cfg x = false) : wr64 x v s = .ok (wrCell (.s64 x) (mask 63 0) v s) := by
  rw [wr64, hp]
  exact if_neg (by simp [hu])

theorem exec_mrs_of_rd64 {s t : State} {sel : Sel64} {x : A64Reg} {v : Word} (rt : BitVec 5) (hxs : s.ctx.xs = .aarch64)
    (hsel : selected s.cfg.sysRegSel64 sel = some x) (hr : rd64 x s = .ok (v, t)) :
    exec (.mrs sel rt) s = .next (writeX t rt v) := by
  rw [exec, execMrs, if_neg (not_not_intro hxs), hsel]
  simp only [hr]

theorem exec_msr_of_wr64 {s t : State} {sel : Sel64} {rt : BitVec 5} {x : A64Reg} {v : Word}
    (hxs : s.ctx.xs = .aarch64) (hsel : selected s.cfg.sysRegSel64 sel = some x) (hv : readX s rt = some v)
    (hw : wr64 x v s = .ok t) : exec (.msr sel rt) s = .next t := by
  rw [exec, execMsr, if_neg (not_not_intro hxs), hsel]
  simp only [hv, hw]

/-! ### The statements -/

/-- Settles O33: `MRS` and `MSR` fault through the third check alone, and no other instruction meets it. -/
theorem faultsExactlyWhen : Obligations.FaultsExactlyWhen := by
  unfold Obligations.FaultsExactlyWhen
  intro i s
  constructor
  · rintro ⟨f, h⟩
    cases i with
    | mrs sel rt =>
      obtain ⟨hxs, hel1, x, hx⟩ := exec_mrs_eq_fault_iff.1 h
      exact ⟨hxs, hel1, sel, rt, x, .inl rfl, hx⟩
    | msr sel rt =>
      obtain ⟨hv, hxs, hel1, x, hx⟩ := exec_msr_eq_fault_iff.1 h
      exact ⟨hxs, hel1, sel, rt, x, .inr ⟨rfl, hv⟩, hx⟩
    | mrc | mcr | mrrc | mcrr => exact absurd h (exec_ne_fault_of_aarch32 rfl s f)
  · rintro ⟨hxs, hel1, sel, rt, x, rfl | ⟨rfl, hv⟩, hx⟩
    · exact ⟨.undefined, exec_mrs_eq_fault_iff.2 ⟨hxs, hel1, x, hx⟩⟩
    · exact ⟨.undefined, exec_msr_eq_fault_iff.2 ⟨hv, hxs, hel1, x, hx⟩⟩

/-- Settles O17: the operation answers by R706, R505 or R707, and the instruction completes with its answer. -/
theorem sysregInstructionsRun : Obligations.SysregInstructionsRun := by
  unfold Obligations.SysregInstructionsRun
  exact ⟨fun s sel rt x hxs hsel hp hu => exec_mrs_of_rd64 rt hxs hsel (rd64_of_not_unknown hp hu),
    fun s sel rt x hxs hsel hp hu => exec_mrs_of_rd64 rt hxs hsel (rd64_of_unknown hp hu),
    fun s sel rt x v hxs hsel hv hp hu => exec_msr_of_wr64 hxs hsel hv (wr64_of_not_unknown v hp hu)⟩

/-- Settles O34: in AArch64 state the third check of R702 decides, in AArch32 state the second. -/
theorem tableK14_6Undefined : Obligations.TableK14_6Undefined := by
  unfold Obligations.TableK14_6Undefined
  intro s n v htab hel1
  refine ⟨fun hxs => ?aarch64, fun hxs => ?aarch32⟩
  case aarch64 =>
    have hstop (k : AccessKind) : accessStop s.cfg s.ctx (.a64 n.reg) k = some raiseUndefined :=
      accessStop_a64_eq_fault_iff.2 ⟨hxs, hel1, htab, rfl⟩
    exact ⟨rd64_of_stop (hstop .read), wr64_of_stop v (hstop .write)⟩
  case aarch32 =>
    have hidx : indexOk s.cfg (.a64 n.reg) = true := (indexOk_iff_of_inTableK14_6 s.cfg htab).2 rfl
    have hstop (k : AccessKind) : accessStop s.cfg s.ctx (.a64 n.reg) k = some (.refusal .otherExecutionState) :=
      accessStop_of_otherState k hidx (by simp [nameState, hxs])
    exact ⟨rd64_of_stop (hstop .read), wr64_of_stop v (hstop .write)⟩

/-- Settles O35: with no level able to use AArch32 each of the nineteen is UNKNOWN. -/
theorem tableK14_7ReadsUnknown : Obligations.TableK14_7ReadsUnknown := by
  unfold Obligations.TableK14_7ReadsUnknown
  intro s n htab hany hp
  have hu : isUnknown s.cfg n.reg = true := by simp [isUnknown, A64Name.reg, htab, hany]
  exact rd64_of_unknown hp hu

end Sys2Proof.Machine
end

section
/-! ## The map by Exception level (R602, R705)

`RESOLVE_EL` looks up the cell of the form in the column of the current level: it answers the cell's names, and refuses
when the cell is empty. -/

namespace Sys2Proof.Machine

theorem resolveEL_of_empty {f : GeneralForm} {c : Ctx} (h : byEL f c.el = []) :
    resolveEL f c = refuse .noRegisterAtThisLevel := by
  rw [resolveEL, h]

theorem resolveEL_of_ne_nil {f : GeneralForm} {c : Ctx} (h : byEL f c.el ≠ []) :
    resolveEL f c = .ok (byEL f c.el) := by
  obtain ⟨x, l, hcell⟩ := List.exists_cons_of_ne_nil h
  rw [resolveEL, hcell]

/-- Settles O59: the one case split of R705 is whether the cell of the level is empty. -/
theorem resolveELAnswersByLevel : Obligations.ResolveELAnswersByLevel := by
  unfold Obligations.ResolveELAnswersByLevel
  exact fun _ _ => ⟨resolveEL_of_empty, resolveEL_of_ne_nil⟩

end Sys2Proof.Machine
end

section
/-! ## Access operations: a step, its item, and the checks of an access

The statements of 45_access_operations.md about what a step runs (R700, R711), when an access goes on (R702), and what
the operations that touch no cell do (R704, R705, R710, R711). -/

namespace Sys2Proof.Machine

/-! ### The step of an operation, and of a word that is placed (R700, R711) -/

theorem step_op {s : State} {o : HostOp} {rest : List Pending} (h : s.pending = .op o :: rest) :
    step s = runOp o (taken rest s) := by
  rw [step, runNext, h]
  rfl

theorem step_of_exhausted {s : State} (h : s.pending = []) : step s = .refused .listExhausted := by
  rw [step, runNext, h]

theorem tableWord_toNat (w : InstrWord) : tableWord 32 w.toNat = w := by
  rw [tableWord, Nat.mod_eq_of_lt w.isLt, BitVec.ofNat_toNat, BitVec.setWidth_eq]

/-- The Execution state of a word that decodes is the one it decodes in: no word decodes in both (R78, R80). -/
theorem wordExecState_of_decode {xs : ExecState} {w : InstrWord} {i : Instr} (h : decode xs w = .ok i) :
    wordExecState w = some xs := by
  match xs with
  | .aarch64 =>
    have h64 : decodeA64 w = .ok i := h
    rw [wordExecState, h64]
  | .aarch32 =>
    have h32 : decodeA32 w = .ok i := h
    cases h64 : decodeA64 w with
    | ok j =>
      have herr : decode .aarch32 w = .error .condNotAlways := noWordDecodesInBothStates w j h64
      rw [herr] at h
      cases h
    | error e => rw [wordExecState, h64, h32]

theorem placeWord_of_decode {xs : ExecState} {w : InstrWord} {i : Instr} (s : State) (h : decode xs w = .ok i) :
    placeWord w s = { s with pending := .word w :: s.pending, ctx := { s.ctx with xs := xs } } := by
  rw [placeWord, wordExecState_of_decode h]

/-! ### The checks (R702) -/

theorem passes_iff {s : State} {r : RegName} {k : AccessKind} :
    passes s r k ↔
      indexOk s.cfg r = true ∧ nameState r = s.ctx.xs ∧ isUndefined s.cfg r = false ∧
        (nameState r = .aarch32 → s.cfg.anyELCanUseAArch32 = true) ∧ notImplemented s.cfg r = false ∧
        inDTRSet r = false ∧ accessible s.cfg s.ctx r k = true := by
  refine ⟨passes_cases, fun ⟨hidx, hstate, hund, h32, himpl, hdtr, hacc⟩ => ?_⟩
  have hlevel : ¬ (nameState r = .aarch32 ∧ s.cfg.anyELCanUseAArch32 = false) := fun ⟨hn, hf⟩ => by
    simp [h32 hn] at hf
  rw [passes, accessStop, if_neg (by simp [hidx]), if_neg (not_not_intro hstate), if_neg (by simp [hund]),
    if_neg hlevel, if_neg (by simp [himpl]), if_neg (by simp [hdtr]), if_neg (by simp [hacc])]

theorem wr64_of_unknown {x : A64Reg} {s : State} (v : Word) (hp : passes s (.a64 x) .write)
    (hu : isUnknown s.cfg x = true) : wr64 x v s = refuse .writeToUnknown := by
  rw [wr64, hp]
  exact if_pos hu

/-! ### The access width of a row (R708) -/

/-- A row that footnote `a` lets apply refuses every access width but the one it needs. `PMCCNTR` refuses its own way
(R712). -/
theorem locate_of_width_ne {cfg : Config} {ctx : Ctx} {r : A32Reg} {aw : AccessWidth} {x : A64Name} {f : RangeForm}
    (hrow : views r.name = [(x, f)]) (hpm : r.name ≠ .PMCCNTR) (hfoot : footnoteA cfg r.name ctx = true)
    (hwidth : aw.bits ≠ f.need (w32 cfg r.name)) : locate cfg ctx r aw = .error .widthMismatch := by
  have hrmr : r.name ≠ .RMR := fun h => by rw [h] at hrow; cases hrow
  have hrowOf : rowOf cfg ctx r.name = .ok (some (x, f)) := by rw [rowOf, if_neg hrmr, hrow]; rfl
  simp only [locate, hrowOf, hfoot, hpm, false_and, if_false, if_pos hwidth, Bool.true_eq_false]

/-! ### The operands, moved and forgotten (R710, R711) -/

theorem runOp_setX {s : State} (i : BitVec 5) (v : Word) (h : s.ctx.xs = .aarch64) :
    runOp (.setX i v) s = .next (withOut (writeX s i v) .nothing) := by
  rw [runOp, setX, if_neg (not_not_intro h), writeDone]

theorem runOp_setR {s : State} {i : BitVec 4} (v : BitVec 32) (h : s.ctx.xs = .aarch32) (hi : i ≠ 15) :
    runOp (.setR i v) s = .next (withOut (writeR s i v) .nothing) := by
  rw [runOp, setR, if_neg (not_not_intro h), if_neg hi, writeDone]

theorem readX_forgetOperands (s : State) {u : BitVec 5} (h : u ≠ 31) : readX (forgetOperands s) u = none := by
  have hlt : u.toNat < 31 := by
    have h31 : u.toNat ≠ 31 := fun he => h (BitVec.eq_of_toNat_eq he)
    have := u.isLt
    omega
  simp [readX, hlt]

theorem readR_forgetOperands (s : State) (u : BitVec 4) : readR (forgetOperands s) u = none := by
  by_cases h : u.toNat < 15 <;> simp [readR, h]

theorem setCtx_of_sameState {c : Ctx} {s : State} (h : c.xs = s.ctx.xs) : setCtx c s = { s with ctx := c } := by
  rw [setCtx, if_pos h]

theorem setCtx_of_otherState {c : Ctx} {s : State} (h : c.xs ≠ s.ctx.xs) :
    setCtx c s = { forgetOperands s with ctx := c } := by
  rw [setCtx, if_neg h]

/-! ### The two resolutions (R704, R705) -/

theorem resolveState_cases (g : GeneralName) (c : Ctx) :
    (∃ l, resolveState g c = .ok l) ∨ resolveState g c = refuse .noRegisterOfThisState := by
  unfold resolveState
  split
  · exact .inr rfl
  · exact .inl ⟨_, rfl⟩

theorem resolveEL_cases (f : GeneralForm) (c : Ctx) :
    (∃ l, resolveEL f c = .ok l) ∨ resolveEL f c = refuse .noRegisterAtThisLevel := by
  by_cases h : byEL f c.el = []
  · exact .inr (resolveEL_of_empty h)
  · exact .inl ⟨_, resolveEL_of_ne_nil h⟩

/-! ### The statements -/

/-- Settles O9. -/
theorem stepRunsOperation : Obligations.StepRunsOperation := by
  unfold Obligations.StepRunsOperation
  exact ⟨fun _ _ _ => step_op, fun _ => step_of_exhausted⟩

/-- Settles O10: the encoded word decodes to the instruction (`decodeOfEncode`), so its placing picks the instruction's
Execution state, and the step decodes it there. -/
theorem placedWordRuns : Obligations.PlacedWordRuns := by
  unfold Obligations.PlacedWordRuns
  intro s i hwf
  have hdec : decode i.execState (encode i) = .ok i := decodeOfEncode i hwf
  rw [State.withFetchWord, tableWord_toNat, step_word (placeWord_pending _ _), placeWord_of_decode s hdec, runWord,
    taken_ctx, hdec]
  rfl

/-- Settles O36: with no level able to use AArch32 each of the nineteen is UNKNOWN. -/
theorem tableK14_7WriteRefused : Obligations.TableK14_7WriteRefused := by
  unfold Obligations.TableK14_7WriteRefused
  intro s n v htab hany hp
  have hu : isUnknown s.cfg n.reg = true := by simp [isUnknown, A64Name.reg, htab, hany]
  exact wr64_of_unknown v hp hu

/-- Settles O37. -/
theorem passesExactlyWhen : Obligations.PassesExactlyWhen := by
  unfold Obligations.PassesExactlyWhen
  exact fun _ _ _ => passes_iff

/-- Settles O39: step 2 of R702, for each operation. -/
theorem otherStateNameRefused : Obligations.OtherStateNameRefused := by
  unfold Obligations.OtherStateNameRefused
  refine ⟨fun s x v hxs hidx => ?a64, fun s r aw v hxs hidx => ?a32⟩
  case a64 =>
    have hstate : nameState (.a64 x) ≠ s.ctx.xs := by simp [nameState, hxs]
    exact ⟨rd64_of_stop (accessStop_of_otherState .read hidx hstate),
      wr64_of_stop v (accessStop_of_otherState .write hidx hstate)⟩
  case a32 =>
    have hstate : nameState (.a32 r) ≠ s.ctx.xs := by simp [nameState, hxs]
    exact ⟨rd32_of_stop aw (accessStop_of_otherState .read hidx hstate),
      wr32_of_stop v (accessStop_of_otherState .write hidx hstate)⟩

/-- Settles O42: a printed half needs width 32, and a printed whole width 64. -/
theorem widthMustMatch : Obligations.WidthMustMatch := by
  unfold Obligations.WidthMustMatch
  intro cfg ctx r x f hrow hpm hfoot
  refine ⟨?_, ?_⟩
  · rintro (rfl | rfl) <;> exact locate_of_width_ne hrow hpm hfoot (by simp [RangeForm.need, AccessWidth.bits])
  · rintro rfl
    exact locate_of_width_ne hrow hpm hfoot (by simp [RangeForm.need, AccessWidth.bits])

/-- Settles O28. -/
theorem zeroRegister : Obligations.ZeroRegister := by
  unfold Obligations.ZeroRegister
  have h31 : ¬ (31 : BitVec 5).toNat < 31 := by decide
  exact fun s v => ⟨dif_neg h31, dif_neg h31⟩

/-- Settles O32: the operand is written, the output set, and nothing else is touched. -/
theorem setGprSetsOneOperand : Obligations.SetGprSetsOneOperand := by
  unfold Obligations.SetGprSetsOneOperand
  refine ⟨fun s i v hxs => ⟨_, runOp_setX i v hxs, ?_⟩, fun s i v hxs hi => ⟨_, runOp_setR v hxs hi, ?_⟩⟩
  · exact ⟨readX_writeX_self s i v, fun u hu => readX_writeX_ne s i u v hu, by simp⟩
  · exact ⟨readR_writeR_self s i v hi, fun u hu => readR_writeR_ne s i u v hu, by simp⟩

/-- Settles O55: the operands are kept or forgotten by the one condition of R710. -/
theorem setCtxChangesOnlyContext : Obligations.SetCtxChangesOnlyContext := by
  unfold Obligations.SetCtxChangesOnlyContext
  refine fun s c => ⟨withOut (setCtx c s) .nothing, rfl, by simp, rfl, fun hne => ?_, fun heq => ?_, by simp⟩
  · rw [setCtx_of_otherState hne]
    exact ⟨fun _ => readX_forgetOperands s, readR_forgetOperands s⟩
  · rw [setCtx_of_sameState heq]
    exact ⟨rfl, rfl⟩

/-- Settles O56: the answer is computed from the context, and put in the output of the state as it was. -/
theorem resolutionIsPure : Obligations.ResolutionIsPure := by
  unfold Obligations.ResolutionIsPure
  refine ⟨fun g s => (resolveState_cases g s.ctx).imp ?_ ?_, fun f s => (resolveEL_cases f s.ctx).imp ?_ ?_⟩
  · exact fun ⟨l, h⟩ => ⟨l, h, by rw [runOp, h, answered]⟩
  · exact fun h => ⟨h, by rw [runOp, h]; rfl⟩
  · exact fun ⟨l, h⟩ => ⟨l, h, by rw [runOp, h, answered]⟩
  · exact fun h => ⟨h, by rw [runOp, h]; rfl⟩

end Sys2Proof.Machine
end

section
/-! ## Access operations: the six instructions and the four accesses, where they complete

Each access operation completes exactly where its checks pass (R706 to R709), each instruction exactly where its access
and its operands allow (R713 to R718), and what an instruction then leaves follows from what its access does. -/

namespace Sys2Proof.Machine

/-! ### When an access operation completes (R706 to R709) -/

theorem rd64_completes_iff {x : A64Reg} {s : State} : (∃ p, rd64 x s = .ok p) ↔ passes s (.a64 x) .read := by
  constructor
  · rintro ⟨p, h⟩
    exact (rd64_cases h).1
  · intro hp
    cases hu : isUnknown s.cfg x with
    | true => exact ⟨_, rd64_of_unknown hp hu⟩
    | false => exact ⟨_, rd64_of_not_unknown hp hu⟩

theorem wr64_completes_iff {x : A64Reg} {v : Word} {s : State} :
    (∃ t, wr64 x v s = .ok t) ↔ passes s (.a64 x) .write ∧ isUnknown s.cfg x = false := by
  constructor
  · rintro ⟨t, h⟩
    obtain ⟨hp, hu, -⟩ := wr64_cases h
    exact ⟨hp, hu⟩
  · rintro ⟨hp, hu⟩
    exact ⟨_, wr64_of_not_unknown v hp hu⟩

theorem rd32_completes_iff {r : A32Reg} {aw : AccessWidth} {s : State} :
    (∃ p, rd32 r aw s = .ok p) ↔ passes s (.a32 r) .read ∧ ∃ l, locate s.cfg s.ctx r aw = .ok l := by
  constructor
  · rintro ⟨p, h⟩
    obtain ⟨hp, l, hl, -⟩ := rd32_cases h
    exact ⟨hp, l, hl⟩
  · rintro ⟨hp, l, hl⟩
    exact ⟨_, rd32_of_locate hp hl⟩

theorem wr32_completes_iff {r : A32Reg} {v : AccessVal} {s : State} :
    (∃ t, wr32 r v s = .ok t) ↔ passes s (.a32 r) .write ∧ ∃ l, locate s.cfg s.ctx r v.width = .ok l := by
  constructor
  · rintro ⟨t, h⟩
    obtain ⟨hp, l, hl, -⟩ := wr32_cases h
    exact ⟨hp, l, hl⟩
  · rintro ⟨hp, l, hl⟩
    exact ⟨_, wr32_of_locate hp hl⟩

/-! ### Pairs of operands (R711, R717, R718) -/

theorem readPair_eq_some_iff {s : State} {t t2 : BitVec 4} {v : Word} :
    readPair s t t2 = some v ↔ ∃ lo hi, readR s t = some lo ∧ readR s t2 = some hi ∧ v = hi ++ lo := by
  unfold readPair
  constructor
  · intro h
    split at h
    next lo hi hlo hhi => exact ⟨lo, hi, hlo, hhi, by cases h; rfl⟩
    next => cases h
  · rintro ⟨lo, hi, hlo, hhi, rfl⟩
    rw [hlo, hhi]

/-- The first operand of a pair takes bits [31:0], if the second is another. -/
theorem readR_writePair_first (s : State) {t t2 : BitVec 4} (v : Word) (h : t ≠ 15) (hne : t ≠ t2) :
    readR (writePair s t t2 v) t = some (v.extractLsb' 0 32) := by
  rw [writePair, readR_writeR_ne _ _ _ _ hne, readR_writeR_self _ _ _ h]

/-- The second operand of a pair takes bits [63:32]. -/
theorem readR_writePair_second (s : State) (t : BitVec 4) {t2 : BitVec 4} (v : Word) (h : t2 ≠ 15) :
    readR (writePair s t t2 v) t2 = some (v.extractLsb' 32 32) := by
  rw [writePair, readR_writeR_self _ _ _ h]

/-! ### `MRRC` and `MCRR` of a located register (R717, R718) -/

theorem exec_mrrc_of_locate {s : State} {sel : Sel32x64} {rt rt2 : BitVec 4} {r : A32Reg} {l : Loc}
    (hxs : s.ctx.xs = .aarch32) (hrt : rt ≠ 15) (hrt2 : rt2 ≠ 15) (hne : rt ≠ rt2)
    (hsel : selected s.cfg.sysRegSel32x64 sel = some r) (hp : passes s (.a32 r) .read)
    (hl : locate s.cfg s.ctx r .w64 = .ok l) :
    exec (.mrrc sel rt rt2) s = .next (writePair (readLoc .w64 s l).2 rt rt2 (readLoc .w64 s l).1.zext) := by
  have hnums : ¬ (rt = 15 ∨ rt2 = 15 ∨ rt = rt2) := by tauto
  rw [exec, execMrrc, if_neg (not_not_intro hxs), if_neg hnums, hsel]
  simp only [rd32_of_locate hp hl]

theorem exec_mcrr_of_locate {s : State} {sel : Sel32x64} {rt rt2 : BitVec 4} {r : A32Reg} {l : Loc} {v : Word}
    (hxs : s.ctx.xs = .aarch32) (hrt : rt ≠ 15) (hrt2 : rt2 ≠ 15)
    (hsel : selected s.cfg.sysRegSel32x64 sel = some r) (hv : readPair s rt rt2 = some v)
    (hp : passes s (.a32 r) .write) (hl : locate s.cfg s.ctx r .w64 = .ok l) :
    exec (.mcrr sel rt rt2) s = .next (writeLoc v s l) := by
  have hnums : ¬ (rt = 15 ∨ rt2 = 15) := by tauto
  have hw : wr32 r (.b64 v) s = .ok (writeLoc v s l) := wr32_of_locate hp hl
  rw [exec, execMcrr, if_neg (not_not_intro hxs), if_neg hnums, hsel]
  simp only [hv, hw]

/-! ### When an instruction completes (R713 to R718) -/

theorem exec_mrs_completes_iff {sel : Sel64} {rt : BitVec 5} {s : State} :
    (∃ t, exec (.mrs sel rt) s = .next t) ↔ mayRun s (.mrs sel rt) := by
  constructor
  · rintro ⟨t, h⟩
    obtain ⟨hxs, x, v, u, hsel, hr, -⟩ := execMrs_cases h
    exact ⟨hxs, x, hsel, rd64_completes_iff.1 ⟨_, hr⟩⟩
  · rintro ⟨hxs, x, hsel, hp⟩
    obtain ⟨⟨v, u⟩, hr⟩ := rd64_completes_iff.2 hp
    exact ⟨_, exec_mrs_of_rd64 rt hxs hsel hr⟩

theorem exec_msr_completes_iff {sel : Sel64} {rt : BitVec 5} {s : State} :
    (∃ t, exec (.msr sel rt) s = .next t) ↔ mayRun s (.msr sel rt) := by
  constructor
  · rintro ⟨t, h⟩
    obtain ⟨hxs, x, v, hsel, hv, hw⟩ := execMsr_cases h
    exact ⟨hxs, by simp [hv], x, hsel, wr64_completes_iff.1 ⟨_, hw⟩⟩
  · rintro ⟨hxs, hv, x, hsel, hp⟩
    obtain ⟨v, hv⟩ := Option.ne_none_iff_exists'.1 hv
    obtain ⟨u, hw⟩ := wr64_completes_iff.2 hp
    exact ⟨u, exec_msr_of_wr64 hxs hsel hv hw⟩

theorem exec_mrc_completes_iff {sel : Sel32} {rt : BitVec 4} {s : State} :
    (∃ t, exec (.mrc sel rt) s = .next t) ↔ mayRun s (.mrc sel rt) := by
  constructor
  · rintro ⟨t, h⟩
    obtain ⟨hxs, hrt, r, v, u, hsel, hr, -⟩ := execMrc_cases h
    obtain ⟨hp, l, hl⟩ := rd32_completes_iff.1 ⟨_, hr⟩
    exact ⟨hxs, hrt, r, l, hsel, hp, hl⟩
  · rintro ⟨hxs, hrt, r, l, hsel, hp, hl⟩
    exact ⟨_, exec_mrc_of_locate hxs hrt hsel hp hl⟩

theorem exec_mcr_completes_iff {sel : Sel32} {rt : BitVec 4} {s : State} :
    (∃ t, exec (.mcr sel rt) s = .next t) ↔ mayRun s (.mcr sel rt) := by
  constructor
  · rintro ⟨t, h⟩
    obtain ⟨hxs, hrt, r, v, hsel, hv, hw⟩ := execMcr_cases h
    obtain ⟨hp, l, hl⟩ := wr32_completes_iff.1 ⟨_, hw⟩
    exact ⟨hxs, hrt, by simp [hv], r, l, hsel, hp, hl⟩
  · rintro ⟨hxs, hrt, hv, r, l, hsel, hp, hl⟩
    obtain ⟨v, hv⟩ := Option.ne_none_iff_exists'.1 hv
    exact ⟨_, exec_mcr_of_locate hxs hrt hsel hv hp hl⟩

theorem exec_mrrc_completes_iff {sel : Sel32x64} {rt rt2 : BitVec 4} {s : State} :
    (∃ t, exec (.mrrc sel rt rt2) s = .next t) ↔ mayRun s (.mrrc sel rt rt2) := by
  constructor
  · rintro ⟨t, h⟩
    obtain ⟨hxs, hnums, r, v, u, hsel, hr, -⟩ := execMrrc_cases h
    obtain ⟨hrt, hrt2, hne⟩ : rt ≠ 15 ∧ rt2 ≠ 15 ∧ rt ≠ rt2 := by tauto
    obtain ⟨hp, l, hl⟩ := rd32_completes_iff.1 ⟨_, hr⟩
    exact ⟨hxs, hrt, hrt2, hne, r, l, hsel, hp, hl⟩
  · rintro ⟨hxs, hrt, hrt2, hne, r, l, hsel, hp, hl⟩
    exact ⟨_, exec_mrrc_of_locate hxs hrt hrt2 hne hsel hp hl⟩

theorem exec_mcrr_completes_iff {sel : Sel32x64} {rt rt2 : BitVec 4} {s : State} :
    (∃ t, exec (.mcrr sel rt rt2) s = .next t) ↔ mayRun s (.mcrr sel rt rt2) := by
  constructor
  · rintro ⟨t, h⟩
    obtain ⟨hxs, hnums, r, v, hsel, hv, hw⟩ := execMcrr_cases h
    obtain ⟨hrt, hrt2⟩ := not_or.1 hnums
    obtain ⟨hp, l, hl⟩ := wr32_completes_iff.1 ⟨_, hw⟩
    exact ⟨hxs, hrt, hrt2, by simp [hv], r, l, hsel, hp, hl⟩
  · rintro ⟨hxs, hrt, hrt2, hv, r, l, hsel, hp, hl⟩
    obtain ⟨v, hv⟩ := Option.ne_none_iff_exists'.1 hv
    exact ⟨_, exec_mcrr_of_locate hxs hrt hrt2 hsel hv hp hl⟩

/-! ### A register written whole (R714) -/

/-- A write of all 64 bits leaves the written value, every bit of it settled. -/
theorem wrote_full {c : Cell} {v : Word} {s t : State} (h : wrote c (mask 63 0) v (BitVec.allOnes 64) s t) :
    stored t c = v ∧ settled t c = BitVec.allOnes 64 := by
  obtain ⟨hval, hknown, -⟩ := h
  constructor
  · rw [hval, mask_full, mix_allOnes]
  · rw [hknown, mask_full, BitVec.or_allOnes, BitVec.and_self]

/-- A `PLAIN` write of a cell draws no value. -/
theorem wrCell_draws_plain {c : Cell} {s : State} (m v : Word) (h : behaviour s.cfg c = none) :
    (wrCell c m v s).draws = s.draws := by
  rw [wrCell_plain m v h]

/-! ### The statements -/

/-- Settles O16, instruction by instruction. -/
theorem completesExactlyWhen : Obligations.CompletesExactlyWhen := by
  unfold Obligations.CompletesExactlyWhen
  intro i s
  cases i with
  | mrs sel rt => exact exec_mrs_completes_iff
  | msr sel rt => exact exec_msr_completes_iff
  | mrc sel rt => exact exec_mrc_completes_iff
  | mcr sel rt => exact exec_mcr_completes_iff
  | mrrc sel rt rt2 => exact exec_mrrc_completes_iff
  | mcrr sel rt rt2 => exact exec_mcrr_completes_iff

/-- Settles O18. -/
theorem cp32InstructionsRun : Obligations.Cp32InstructionsRun := by
  unfold Obligations.Cp32InstructionsRun
  exact ⟨fun _ _ _ _ _ => exec_mrc_of_locate, fun _ _ _ _ _ _ => exec_mcr_of_locate⟩

/-- Settles O19: the pair `MCRR` reads is the concatenation of its operands. -/
theorem cp64InstructionsRun : Obligations.Cp64InstructionsRun := by
  unfold Obligations.Cp64InstructionsRun
  refine ⟨fun _ _ _ _ _ _ => exec_mrrc_of_locate, fun s sel rt rt2 r l lo hi hxs hrt hrt2 hsel hlo hhi hp hl => ?_⟩
  exact exec_mcrr_of_locate hxs hrt hrt2 hsel (readPair_eq_some_iff.2 ⟨lo, hi, hlo, hhi, rfl⟩) hp hl

/-- Settles O20: the value read is the settled bits with a draw in every other place. -/
theorem mrsReadsSettledBits : Obligations.MrsReadsSettledBits := by
  unfold Obligations.MrsReadsSettledBits
  intro s sel rt x hxs hsel hp hu hplain
  have hr : rd64 x s = .ok (mix (settled s (.s64 x)) (stored s (.s64 x)) (draw s), drawn s) := by
    rw [rd64_of_not_unknown hp hu, rdCell_plain _ hplain]
  exact ⟨_, _, exec_mrs_of_rd64 rt hxs hsel hr, mix_and _ _ _, readX_writeX_self _ _ _,
    fun u hne => readX_writeX_ne _ _ _ _ hne, by simp⟩

/-- Settles O21: the state after is that of a `PLAIN` write of the whole register. -/
theorem msrWritesRegister : Obligations.MsrWritesRegister := by
  unfold Obligations.MsrWritesRegister
  intro s sel rt x v hs hxs hsel hv hp hu hplain
  have hwrote := wrCell_wrote (mask 63 0) v hplain hs
  obtain ⟨hval, hknown⟩ := wrote_full hwrote
  exact ⟨_, exec_msr_of_wr64 hxs hsel hv (wr64_of_not_unknown v hp hu), hval, hknown, hwrote,
    wrCell_onlyCells _ _ _ _, wrCell_draws_plain _ _ hplain⟩

/-- Settles O24: the two operands are the halves of the value of `RD32`, which shows the settled bits. -/
theorem mrrcReadsSettledBits : Obligations.MrrcReadsSettledBits := by
  unfold Obligations.MrrcReadsSettledBits
  intro s sel rt rt2 r l hxs hrt hrt2 hne hsel hp hl hplain
  obtain ⟨hshows, hregs⟩ := readLoc_shows .w64 hplain (locate_bits hl)
  obtain ⟨hcfg, hctx, hx, hr, hpend, hout⟩ := readLoc_onlyCells .w64 s l
  refine ⟨_, _, _, exec_mrrc_of_locate hxs hrt hrt2 hne hsel hp hl, readR_writePair_first _ _ hrt hne,
    readR_writePair_second _ _ _ hrt2, ?_, fun u hu hu2 => ?_, ?_⟩
  · rwa [halves_append]
  · rw [readR_writePair_ne _ _ _ _ _ hu hu2, readR_congr hr]
  · simpa using ⟨hx, hregs, hcfg, hctx, hpend, hout⟩

/-- Settles O25: the state after is that of `WR32`, whose effect on the cells is `writeLoc_wrote`. -/
theorem mcrrWritesNamedBits : Obligations.McrrWritesNamedBits := by
  unfold Obligations.McrrWritesNamedBits
  intro s sel rt rt2 r l lo hi hs hxs hrt hrt2 hsel hlo hhi hp hl hplain
  have hpair : readPair s rt rt2 = some (hi ++ lo) := readPair_eq_some_iff.2 ⟨lo, hi, hlo, hhi, rfl⟩
  exact ⟨_, exec_mcrr_of_locate hxs hrt hrt2 hsel hpair hp hl, writeLoc_wrote _ hplain hs,
    writeLoc_onlyCells _ s l, writeLoc_draws_plain _ hplain⟩

/-- Settles O29: the operand is read before the register is accessed (R714). -/
theorem unknownOperandRefused : Obligations.UnknownOperandRefused := by
  unfold Obligations.UnknownOperandRefused
  intro s sel rt x hxs hsel hv
  rw [exec, execMsr, if_neg (not_not_intro hxs), hsel]
  simp only [hv]

/-- Settles O54: the answer of the access is the output, and its state the state after. -/
theorem accessOperationsRun : Obligations.AccessOperationsRun := by
  unfold Obligations.AccessOperationsRun
  refine ⟨fun s x hp hu => ?rd64, fun s x v hp hu => ?wr64, fun s r aw l hp hl => ?rd32, fun s r v l hp hl => ?wr32⟩
  case rd64 => rw [runOp, rd64_of_not_unknown hp hu, readDone]
  case wr64 => rw [runOp, wr64_of_not_unknown v hp hu, writeDone]
  case rd32 => rw [runOp, rd32_of_locate hp hl, readDone, id]
  case wr32 => rw [runOp, wr32_of_locate hp hl, writeDone]

end Sys2Proof.Machine
end

section
/-! ## Access operations: one storage under two names

An AArch32 name that shows bits [hi:lo] of an AArch64 register reads and writes those bits through the register's own
`rd` and `wr` (R703, R708, R709). Under `PLAIN` the bits it writes are read back under either name (R719 (a) to (c)). -/

namespace Sys2Proof.Machine

/-! ### Bits of an access value -/

theorem zext_ofWord_getLsbD (aw : AccessWidth) (v : Word) {i : Nat} (h : i < aw.bits) :
    (AccessVal.ofWord aw v).zext.getLsbD i = v.getLsbD i := by
  cases aw with
  | w32 =>
    have h32 : i < 32 := h
    have h64 : i < 64 := by omega
    simp [AccessVal.ofWord, h32, h64]
  | w64 => rfl

theorem zext_getLsbD_of_ge (v : AccessVal) {i : Nat} (h : v.width.bits ≤ i) : v.zext.getLsbD i = false := by
  cases v with
  | b32 v =>
    have h32 : 32 ≤ i := h
    simp [BitVec.getLsbD_of_ge v i h32]
  | b64 v => exact BitVec.getLsbD_of_ge v i h

/-! ### Where the bits of a location stand (R304, R708) -/

theorem shift_of_shifted {l : Loc} (h : l.shifted = true) : l.shift = l.lo := by
  rw [Loc.shift, if_pos h]

/-- A location that starts at bit 0 of its name is as wide as the access. -/
theorem locate_span {cfg : Config} {ctx : Ctx} {r : A32Reg} {aw : AccessWidth} {l : Loc}
    (h : locate cfg ctx r aw = .ok l) (hsh : l.shifted = true) : l.hi + 1 = l.lo + aw.bits := by
  have haw : 0 < aw.bits := by cases aw <;> decide
  rcases locate_cases h with ⟨-, -, hw, rfl⟩ | ⟨x, f, -, -, hw, rfl⟩
  · simp only [Loc.hi, Loc.lo]
    omega
  · simp only [Loc.hi, Loc.lo]
    cases f with
    | kept hi lo => cases hsh
    | _ => simp only [RangeForm.bits, RangeForm.need] at hw ⊢; omega

/-- A write through a location leaves every bit it names settled: a narrowed row names the low half alone (R709). -/
theorem locate_keep {cfg : Config} {ctx : Ctx} {r : A32Reg} {aw : AccessWidth} {l : Loc}
    (h : locate cfg ctx r aw = .ok l) {i : Nat} (hi : i ≤ l.hi) : l.keep.getLsbD i = true := by
  obtain ⟨-, h64⟩ := locate_bits h
  have hlt : i < 64 := by omega
  unfold Loc.keep
  split
  next hn =>
    have hhi : l.hi = 31 := by
      rcases locate_cases h with ⟨-, -, -, rfl⟩ | ⟨x, f, -, -, -, rfl⟩
      · cases hn
      · obtain rfl : f = .narrowed := by simpa [Loc.narrowed] using hn
        rfl
    have h31 : i ≤ 31 := by omega
    rw [mask_getLsbD _ _ _ (Nat.zero_le _)]
    simp [hlt, h31]
  next => simp [hlt, -BitVec.reduceAllOnes]

/-- Where a name with one row is stored, wherever the access is located (R708). -/
theorem loc_of_single_row {cfg : Config} {ctx : Ctx} {r : A32Reg} {aw : AccessWidth} {l : Loc} {x : A64Name}
    {f : RangeForm} (hrow : views r.name = [(x, f)]) (h : locate cfg ctx r aw = .ok l) :
    l = .view (.s64 ⟨x, r.idx⟩) (f.bits (w32 cfg r.name)).1 (f.bits (w32 cfg r.name)).2 f.shifted (f == .narrowed) := by
  rcases locate_cases h with ⟨hnil, -, -, -⟩ | ⟨y, g, ⟨-, hmem⟩ | ⟨hrmr, -, -⟩, -, -, rfl⟩
  · rw [hrow] at hnil
    cases hnil
  · rw [hrow] at hmem
    cases List.mem_singleton.1 hmem
    rfl
  · rw [hrmr] at hrow
    cases hrow

/-! ### Reads through a location that starts at bit 0 of its name (R708) -/

theorem readLoc_of_shifted {l : Loc} (aw : AccessWidth) (s : State) (h : l.shifted = true) :
    readLoc aw s l = (.ofWord aw (slice (rdCell l.cell (mask l.hi l.lo) s).1 l.hi l.lo),
      (rdCell l.cell (mask l.hi l.lo) s).2) := by
  rw [readLoc, if_pos h]

/-- The bits a name reads are those the register's `rd` gives, for every behaviour (R703). -/
theorem readLoc_getLsbD {s : State} {r : A32Reg} {aw : AccessWidth} {l : Loc} (hl : locate s.cfg s.ctx r aw = .ok l)
    (hsh : l.shifted = true) {i : Nat} (hlo : l.lo ≤ i) (hhi : i ≤ l.hi) :
    (readLoc aw s l).1.zext.getLsbD (i - l.lo) = (rdCell l.cell (mask l.hi l.lo) s).1.getLsbD i := by
  obtain ⟨hle, h64⟩ := locate_bits hl
  have hspan := locate_span hl hsh
  have hbit : i - l.lo < aw.bits := by omega
  have hin : i - l.lo + l.lo ≤ l.hi := by omega
  have hi : l.lo + (i - l.lo) = i := by omega
  rw [readLoc_of_shifted aw s hsh, zext_ofWord_getLsbD aw _ hbit, slice_getLsbD _ _ _ _ hle h64, hi]
  simp [hin]

/-- A `PLAIN` read shows every settled bit, whatever the mask. -/
theorem rdCell_getLsbD_of_settled {c : Cell} {s : State} (m : Word) {i : Nat} (h : behaviour s.cfg c = none)
    (hset : (settled s c).getLsbD i = true) : (rdCell c m s).1.getLsbD i = (stored s c).getLsbD i := by
  rw [rdCell_plain m h, mix_getLsbD, if_pos hset]

@[simp] theorem settled_setCtx (c : Ctx) (s : State) (d : Cell) : settled (setCtx c s) d = settled s d := by
  simp [settled]

@[simp] theorem stored_setCtx (c : Ctx) (s : State) (d : Cell) : stored (setCtx c s) d = stored s d := by
  simp [stored]

/-! ### Registers that an AArch32 name reaches are not UNKNOWN (R505, R702) -/

/-- An access by an AArch32 name passes only where some level can use AArch32, and there no register is UNKNOWN. -/
theorem isUnknown_of_passes_a32 {s : State} {r : A32Reg} {k : AccessKind} (h : passes s (.a32 r) k) (x : A64Reg) :
    isUnknown s.cfg x = false := by
  obtain ⟨-, -, -, hany, -, -, -⟩ := passes_cases h
  simp [isUnknown, hany rfl]

theorem rd64_of_known {x : A64Reg} {s : State} {q : Word × State} (h : rd64 x s = .ok q)
    (hu : isUnknown s.cfg x = false) : q = rdCell (.s64 x) (mask 63 0) s := by
  obtain ⟨-, ⟨hu', -⟩ | ⟨-, rfl⟩⟩ := rd64_cases h
  · rw [hu] at hu'
    cases hu'
  · rfl

/-- A read of X that follows an access by an AArch32 name is the register's `rd`, in any context. -/
theorem rd64_setCtx_of_passes_a32 {s t : State} {r : A32Reg} {k : AccessKind} {x : A64Reg} {c : Ctx}
    {q : Word × State} (hp : passes s (.a32 r) k) (hcfg : t.cfg = s.cfg) (h : rd64 x (setCtx c t) = .ok q) :
    q = rdCell (.s64 x) (mask 63 0) (setCtx c t) := by
  have hu := isUnknown_of_passes_a32 hp x
  exact rd64_of_known h (by rwa [setCtx_cfg, hcfg])

/-! ### Writes through a location (R709) -/

/-- The bits a name writes are settled afterwards and hold the value. -/
theorem wroteLoc_getLsbD {s t : State} {cfg : Config} {ctx : Ctx} {r : A32Reg} {aw : AccessWidth} {l : Loc} {v : Word}
    (h : wroteLoc l v s t) (hl : locate cfg ctx r aw = .ok l) (hsh : l.shifted = true) {i : Nat} (hlo : l.lo ≤ i)
    (hhi : i ≤ l.hi) :
    (settled t l.cell).getLsbD i = true ∧ (stored t l.cell).getLsbD i = v.getLsbD (i - l.lo) := by
  obtain ⟨hval, hknown, -⟩ := h
  obtain ⟨hle, h64⟩ := locate_bits hl
  have hmask : (mask l.hi l.lo).getLsbD i = true := by
    have hlt : i < 64 := by omega
    simp [mask_getLsbD _ _ _ hle, hlo, hhi, hlt]
  constructor
  · rw [hknown]
    simp [hmask, locate_keep hl hhi]
  · have hlt : i < 64 := by omega
    have hge : ¬ i < l.lo := by omega
    rw [hval, mix_getLsbD, if_pos hmask, shift_of_shifted hsh, BitVec.getLsbD_shiftLeft]
    simp only [hlt, hge, decide_true, decide_false, Bool.not_false, Bool.true_and]

theorem writeLoc_of_shifted {l : Loc} (v : Word) (s : State) (hsh : l.shifted = true) (hn : l.narrowed = false) :
    writeLoc v s l = wrCell l.cell (mask l.hi l.lo) (v <<< l.lo) s := by
  rw [writeLoc, if_neg (by simp [hn]), shift_of_shifted hsh]

/-! ### The two halves of a register (R719 (c)) -/

/-- Outside `RMR` and the data transfer set a name has at most one row (R23, R309). -/
theorem views_length_le_one {r : A32Name} (hrmr : r ≠ .RMR) (hdtr : inDTRSet32 r = false) : (views r).length ≤ 1 := by
  revert hrmr hdtr
  cases r <;> decide

/-- No register has its low half in a row of `RMR` and its high half in another row. -/
theorem high_row_apart_from_rmr (b : A32Name) :
    ∀ p ∈ views b, p.2 = .high32 → b ≠ .RMR ∧ (p.1, .low32) ∉ views .RMR := by
  cases b <;> decide

theorem views_of_mem {r : A32Name} {p : A64Name × RangeForm} (hrmr : r ≠ .RMR) (hdtr : inDTRSet32 r = false)
    (h : p ∈ views r) : views r = [p] := by
  obtain ⟨q, hq⟩ := List.length_eq_one_iff.1
    (Nat.le_antisymm (views_length_le_one hrmr hdtr) (List.length_pos_of_mem h))
  rw [hq] at h ⊢
  rw [List.mem_singleton.1 h]

/-- What a `PLAIN` write of width 32 by a name of one row does: it writes the bits of the row (R709). -/
theorem wr32_wrote_row {s t : State} {r : A32Name} {x : A64Name} {f : RangeForm} {n : Nat} {v : BitVec 32}
    (hs : StateOk s) (hplain : allPlain s.cfg) (hrmr : r ≠ .RMR) (hrow : (x, f) ∈ views r) (h : wr32 ⟨r, n⟩ (.b32 v) s = .ok t) :
    wroteLoc (.view (.s64 ⟨x, n⟩) (f.bits (w32 s.cfg r)).1 (f.bits (w32 s.cfg r)).2 f.shifted (f == .narrowed))
      (v.setWidth 64) s t := by
  obtain ⟨hp, l, hl, rfl⟩ := wr32_cases h
  obtain ⟨-, -, -, -, -, hdtr, -⟩ := passes_cases hp
  obtain rfl := loc_of_single_row (views_of_mem hrmr hdtr hrow) hl
  exact writeLoc_wrote _ (allPlain_behaviour hplain _) hs

/-- Two writes whose masks together cover a cell, each of the bits of w that its mask names, leave w in it. -/
theorem wrote_twice_join {c : Cell} {m k v1 v2 w : Word} {s t u : State}
    (h1 : wrote c m v1 (BitVec.allOnes 64) s t) (h2 : wrote c k v2 (BitVec.allOnes 64) t u)
    (hcover : m ||| k = BitVec.allOnes 64) (hv1 : v1 &&& m = w &&& m) (hv2 : v2 &&& k = w &&& k) :
    stored u c = w ∧ settled u c = BitVec.allOnes 64 := by
  obtain ⟨hval1, hknown1, -⟩ := h1
  obtain ⟨hval2, hknown2, -⟩ := h2
  constructor
  · ext i hi
    have hbit1 : (v1[i] && m[i]) = (w[i] && m[i]) := by simpa using congrArg (·[i]) hv1
    have hbit2 : (v2[i] && k[i]) = (w[i] && k[i]) := by simpa using congrArg (·[i]) hv2
    have hsome : m[i] = true ∨ k[i] = true := by
      simpa [-BitVec.reduceAllOnes] using congrArg (·[i]) hcover
    rw [hval2, hval1]
    simp only [mix, BitVec.getElem_and, BitVec.getElem_or, BitVec.getElem_not]
    cases hk : k[i] with
    | true => simpa [hk] using hbit2
    | false =>
      have hm : m[i] = true := by simpa [hk] using hsome
      simpa [hm] using hbit1
  · rw [hknown2, hknown1, BitVec.and_allOnes, BitVec.and_allOnes, BitVec.or_assoc, hcover, BitVec.or_allOnes]

theorem append_low_half (hi lo : BitVec 32) :
    lo.setWidth 64 <<< 0 &&& mask 31 0 = (hi ++ lo : Word) &&& mask 31 0 := by
  apply BitVec.eq_of_getLsbD_eq
  intro i h64
  rw [BitVec.getLsbD_and, BitVec.getLsbD_and, BitVec.getLsbD_append, mask_getLsbD _ _ _ (Nat.zero_le _)]
  by_cases h : i < 32
  · simp [h, h64]
  · have h31 : ¬ i ≤ 31 := by omega
    simp [h31]

theorem append_high_half (hi lo : BitVec 32) :
    hi.setWidth 64 <<< 32 &&& mask 63 32 = (hi ++ lo : Word) &&& mask 63 32 := by
  apply BitVec.eq_of_getLsbD_eq
  intro i h64
  rw [BitVec.getLsbD_and, BitVec.getLsbD_and, BitVec.getLsbD_append, mask_getLsbD _ _ _ (by decide)]
  by_cases h : i < 32
  · have h32 : ¬ 32 ≤ i := by omega
    simp [h32]
  · simp [h, h64]

theorem halves_cover : mask 31 0 ||| mask 63 32 = BitVec.allOnes 64 := by decide

/-! ### The statements -/

/-- Settles O60: the read by the name is a slice of `rd`, the read of X is `rd` itself, since no register an AArch32 name
reaches is UNKNOWN. -/
theorem viewsShareBehaviour : Obligations.ViewsShareBehaviour := by
  unfold Obligations.ViewsShareBehaviour
  intro s r aw l hl hsh
  have hread {p : AccessVal × State} (hr : rd32 r aw s = .ok p) : p = readLoc aw s l := by
    obtain ⟨-, l', hl', rfl⟩ := rd32_cases hr
    cases hl.symm.trans hl'
    rfl
  refine ⟨fun p hr => ?read, fun v t hv hn hw => ?write, fun x c p q hx hr hq hsame i hlo hhi => ?readX⟩
  case read =>
    obtain rfl := hread hr
    exact ⟨by rw [readLoc_of_shifted aw s hsh], fun i hlo hhi => readLoc_getLsbD hl hsh hlo hhi⟩
  case write =>
    obtain ⟨-, l', hl', rfl⟩ := wr32_cases hw
    rw [hv] at hl'
    cases hl.symm.trans hl'
    exact writeLoc_of_shifted _ _ hsh hn
  case readX =>
    obtain ⟨hp, -⟩ := rd32_cases hr
    obtain rfl := hread hr
    obtain rfl := rd64_setCtx_of_passes_a32 hp rfl hq
    rw [readLoc_getLsbD hl hsh hlo hhi, hsame i hlo hhi, hx]

/-- Settles O49, from O60: under `PLAIN` both reads give a settled bit as it is stored. -/
theorem aliasRead : Obligations.AliasRead := by
  unfold Obligations.AliasRead
  intro s r x aw l c p q hplain hl hx hsh hr hq i hlo hhi hset
  obtain ⟨hp, -⟩ := rd32_cases hr
  obtain ⟨hshows, -, -⟩ := viewsShareBehaviour s r aw l hl hsh
  obtain rfl := rd64_setCtx_of_passes_a32 hp rfl hq
  rw [(hshows p hr).2 i hlo hhi, rdCell_getLsbD_of_settled _ hplain hset, ← hx,
    rdCell_getLsbD_of_settled _ (by rwa [setCtx_cfg]) (by rwa [settled_setCtx]), stored_setCtx]

/-- Settles O50: the written bits are settled, so `rd` of X gives them, and they fill the access width. -/
theorem aliasWrite : Obligations.AliasWrite := by
  unfold Obligations.AliasWrite
  intro s t r x v l c q hs hplain hl hx hsh hw hq
  obtain ⟨hcfg, -⟩ := wr32_onlyCells hw
  obtain ⟨hp, l', hl', rfl⟩ := wr32_cases hw
  cases hl.symm.trans hl'
  obtain rfl := rd64_setCtx_of_passes_a32 hp hcfg hq
  obtain ⟨hle, h64⟩ := locate_bits hl
  have hspan := locate_span hl hsh
  have hwrote := writeLoc_wrote v.zext hplain hs
  apply BitVec.eq_of_getLsbD_eq
  intro i hi
  rw [slice_getLsbD _ _ _ _ hle h64]
  by_cases hin : i + l.lo ≤ l.hi
  · obtain ⟨hset, hval⟩ := wroteLoc_getLsbD hwrote hl hsh (i := l.lo + i) (by omega) (by omega)
    rw [← hx, rdCell_getLsbD_of_settled _ (by rwa [setCtx_cfg, hcfg]) (by rwa [settled_setCtx]), stored_setCtx, hval]
    simp [hin]
  · rw [zext_getLsbD_of_ge v (by omega)]
    simp [hin]

/-- Settles O51: after the write every bit of X is settled, so each name shows it at its place. -/
theorem writeSeenThroughViews : Obligations.WriteSeenThroughViews := by
  unfold Obligations.WriteSeenThroughViews
  intro s t r x v aw l c p hs hplain hw hl hx hr i hlo hhi hbits
  obtain ⟨hcfg, -⟩ := wr64_onlyCells hw
  obtain ⟨-, -, rfl⟩ := wr64_cases hw
  obtain ⟨hval, hknown⟩ := wrote_full (wrCell_wrote (mask 63 0) v hplain hs)
  obtain ⟨-, l', hl', rfl⟩ := rd32_cases hr
  rw [setCtx_cfg, setCtx_ctx, hcfg] at hl'
  cases hl.symm.trans hl'
  obtain ⟨hle, h64⟩ := locate_bits hl
  have hlt : i < 64 := by omega
  obtain ⟨hshows, -⟩ := readLoc_shows aw (s := setCtx c (wrCell (.s64 x) (mask 63 0) v s)) (l := l)
    (by rwa [setCtx_cfg, hcfg, hx]) (locate_bits hl)
  rw [hshows i hlo hhi hbits (by rw [settled_setCtx, hx, hknown]; simp [hlt, -BitVec.reduceAllOnes]), stored_setCtx, hx,
    hval]

/-- Settles O52: each half is the one row of its name, and the two halves cover the register. -/
theorem splitRegistersJoin : Obligations.SplitRegistersJoin := by
  unfold Obligations.SplitRegistersJoin
  intro s t u a b x n v1 v2 hs hplain hlow hhigh hw
  obtain ⟨hb, hapart⟩ := high_row_apart_from_rmr b _ hhigh rfl
  have ha : a ≠ .RMR := fun h => hapart (h ▸ hlow)
  have hplain' {r : A32Reg} {v : AccessVal} (h : wr32 r v s = .ok t) : allPlain t.cfg := by
    obtain ⟨hcfg, -⟩ := wr32_onlyCells h
    rwa [hcfg]
  rcases hw with ⟨h1, h2⟩ | ⟨h2, h1⟩
  · exact wrote_twice_join (wr32_wrote_row hs hplain ha hlow h1)
      (wr32_wrote_row (wr32_inv hs h1) (hplain' h1) hb hhigh h2) halves_cover (append_low_half v2 v1)
      (append_high_half v2 v1)
  · exact wrote_twice_join (wr32_wrote_row hs hplain hb hhigh h2)
      (wr32_wrote_row (wr32_inv hs h2) (hplain' h2) ha hlow h1) (by rw [BitVec.or_comm]; exact halves_cover)
      (append_high_half v2 v1)
      (append_low_half v2 v1)

end Sys2Proof.Machine
end
